-- ==== Sys2Proof/Word.lean ====
section
/-!
DEFINITION. The machine's word types (spec/00_scope.md R8, R11).
-/

namespace Sys2Proof

/-- A byte: general registers, timers, memory cells (R8). -/
abbrev Byte := BitVec 8

/-- A 16-bit value: `I`, `pc`, stack entries, instruction words (R8). -/
abbrev Word := BitVec 16

/-- The number of a general register, the 4-bit index into the file `V0` … `VF` (R20). -/
abbrev Reg := Fin 16

/-- A key code `0x0` … `0xF` (R36). -/
abbrev KeyCode := Fin 16

/-- `VF`, the flag register: register 15 of the file (R21). -/
abbrev VF : Reg := 15

end Sys2Proof
end

