-- ==== Sys2Proof/Config.lean ====
section
/-!
DEFINITION. What is fixed for a run and is not state: the parameters of spec/00_scope.md R9 (also R41), and the free values.
The values this hardware takes are `Sys2Proof.Machine.hardware` (Machine/Hardware.lean).
-/

namespace Sys2Proof

/-- The parameters of R9 that change what a tick does. The two last fields are the points the spec leaves OPEN. -/
structure Config where
  /-- `STACK_DEPTH`; `none` is the unbounded stack of the source's default (R29, D9; log 8). -/
  stackDepth : Option Nat
  /-- `RND_MASKED`: CXNN ANDs the random byte with `NN` (R181, D4; log 9). -/
  rndMasked : Bool
  /-- `KEYWAIT_BLOCKS`: FX0A repeats until a key is pressed (R252, D6; log 10). -/
  keywaitBlocks : Bool
  /-- `UNRECOGNIZED_ADVANCES`: an unrecognised opcode adds 2 to `pc` (R308, D3; log 11). -/
  unrecognizedAdvances : Bool
  /-- `STRICT_DECODE`: a word is recognised only if every fixed nibble matches (R105, D2; log 12). -/
  strictDecode : Bool
  /-- `RAND`: the byte supplied at each draw, the draws numbered from 0 (R40, D5; log 5). -/
  rand : Nat → Byte
  /-- `KEY_SELECT`: at a draw, which of the pressed keys FX0A takes, as a position in their list; it is reduced modulo the
  length of the list, so that the choice is always a pressed key (R252, D7; log 6). -/
  keySelect : Nat → List KeyCode → Nat

/-- The random byte of each draw. FREE VALUE: it has no body, so nothing can be proved of its values (R40, D5; log 5). -/
opaque Config.freeRand : Nat → Byte

/-- The key choice of each draw. FREE VALUE, as `Config.freeRand` (R252, D7; log 6). -/
opaque Config.freeKeySelect : Nat → List KeyCode → Nat

/-- The launch parameters `FONT` and `PROGRAM` of R9: the bytes the loader writes before the first tick (R352). -/
structure Image where
  /-- `FONT`, the bytes of the 16 glyphs (R65). -/
  font : List Byte
  /-- `PROGRAM`, the program image (R67). -/
  program : List Byte
deriving DecidableEq, Repr

end Sys2Proof
end

