-- ==== Sys2Proof/Syntax.lean ====
section
/-!
DEFINITION. The instructions: one constructor for each of the 34 rows of spec/opcode_table.json (spec/30_encoding.md R104).
The operand types are exactly as wide as the fields of R102, so a term of `Instr` has no operand an encoding could not hold.
-/

namespace Sys2Proof

/-- The recognised instructions in the order of R104. `x`, `y` are the register fields `X`, `Y`; `n`, `nn`, `nnn` the
immediates `N`, `NN`, `NNN` (R102), all unsigned (R114). -/
inductive Instr where
  /-- `00E0` CLS (R230). -/
  | cls
  /-- `00EE` RET (R140). -/
  | ret
  /-- `1NNN` JP addr (R141). -/
  | jp (nnn : BitVec 12)
  /-- `2NNN` CALL addr (R142). -/
  | call (nnn : BitVec 12)
  /-- `3XNN` SE Vx, NN (R143). -/
  | se (x : Reg) (nn : Byte)
  /-- `4XNN` SNE Vx, NN (R144). -/
  | sne (x : Reg) (nn : Byte)
  /-- `5XY0` SE Vx, Vy (R145). -/
  | seReg (x y : Reg)
  /-- `6XNN` LD Vx, NN (R170). -/
  | ld (x : Reg) (nn : Byte)
  /-- `7XNN` ADD Vx, NN (R171). -/
  | add (x : Reg) (nn : Byte)
  /-- `8XY0` LD Vx, Vy (R172). -/
  | ldReg (x y : Reg)
  /-- `8XY1` OR Vx, Vy (R173). -/
  | or (x y : Reg)
  /-- `8XY2` AND Vx, Vy (R174). -/
  | and (x y : Reg)
  /-- `8XY3` XOR Vx, Vy (R175). -/
  | xor (x y : Reg)
  /-- `8XY4` ADD Vx, Vy (R176). -/
  | addReg (x y : Reg)
  /-- `8XY5` SUB Vx, Vy (R177). -/
  | sub (x y : Reg)
  /-- `8XY6` SHR Vx; `Y` is decoded and ignored (R178). -/
  | shr (x y : Reg)
  /-- `8XY7` SUBN Vx, Vy (R179). -/
  | subn (x y : Reg)
  /-- `8XYE` SHL Vx; `Y` is decoded and ignored (R180). -/
  | shl (x y : Reg)
  /-- `9XY0` SNE Vx, Vy (R146). -/
  | sneReg (x y : Reg)
  /-- `ANNN` LD I, addr (R200). -/
  | ldI (nnn : BitVec 12)
  /-- `BNNN` JP V0, addr (R147). -/
  | jpV0 (nnn : BitVec 12)
  /-- `CXNN` RND Vx, NN (R181). -/
  | rnd (x : Reg) (nn : Byte)
  /-- `DXYN` DRW Vx, Vy, N (R232). -/
  | drw (x y : Reg) (n : BitVec 4)
  /-- `EX9E` SKP Vx (R250). -/
  | skp (x : Reg)
  /-- `EXA1` SKNP Vx (R251). -/
  | sknp (x : Reg)
  /-- `FX07` LD Vx, DT (R253). -/
  | ldVxDt (x : Reg)
  /-- `FX0A` LD Vx, K (R252). -/
  | ldVxK (x : Reg)
  /-- `FX15` LD DT, Vx (R254). -/
  | ldDtVx (x : Reg)
  /-- `FX18` LD ST, Vx (R255). -/
  | ldStVx (x : Reg)
  /-- `FX1E` ADD I, Vx (R201). -/
  | addIVx (x : Reg)
  /-- `FX29` LD F, Vx (R204). -/
  | ldFVx (x : Reg)
  /-- `FX33` LD B, Vx (R205). -/
  | ldBVx (x : Reg)
  /-- `FX55` LD [I], Vx (R206). -/
  | storeRegs (x : Reg)
  /-- `FX65` LD Vx, [I] (R207). -/
  | loadRegs (x : Reg)
deriving DecidableEq, Repr

end Sys2Proof
end

