-- ==== Sys2Proof/WellFormed.lean ====
section
/-!
DEFINITION. The checks of well-formedness the spec places on what is given to the machine: which instruction words are
recognised (spec/30_encoding.md R104, R112), and which images can be launched (spec/20_memory.md R65, R67).
A term of `Instr` needs no check: its operand types are as wide as the fields of R102 and "every bit of every recognised word is
either fixed or an operand" (spec/93_implementation_defined.md).
-/

namespace Sys2Proof

/-- A row of the opcode table: a word `op` is this row's instruction when `op & mask = pattern` (R104). -/
structure OpcodeRow where
  mnemonic : String
  mask : Word
  pattern : Word
deriving DecidableEq, Repr

/-- Classes 0 to 7 of R104. -/
def opcodeRowsLow : List OpcodeRow :=
  [ ⟨"CLS", 0xFFFF#16, 0x00E0#16⟩,
    ⟨"RET", 0xFFFF#16, 0x00EE#16⟩,
    ⟨"JP", 0xF000#16, 0x1000#16⟩,
    ⟨"CALL", 0xF000#16, 0x2000#16⟩,
    ⟨"SE", 0xF000#16, 0x3000#16⟩,
    ⟨"SNE", 0xF000#16, 0x4000#16⟩,
    ⟨"SE_reg", 0xF00F#16, 0x5000#16⟩,
    ⟨"LD", 0xF000#16, 0x6000#16⟩,
    ⟨"ADD", 0xF000#16, 0x7000#16⟩ ]

/-- Class 8 of R104. -/
def opcodeRowsAlu : List OpcodeRow :=
  [ ⟨"LD_reg", 0xF00F#16, 0x8000#16⟩,
    ⟨"OR", 0xF00F#16, 0x8001#16⟩,
    ⟨"AND", 0xF00F#16, 0x8002#16⟩,
    ⟨"XOR", 0xF00F#16, 0x8003#16⟩,
    ⟨"ADD_reg", 0xF00F#16, 0x8004#16⟩,
    ⟨"SUB", 0xF00F#16, 0x8005#16⟩,
    ⟨"SHR", 0xF00F#16, 0x8006#16⟩,
    ⟨"SUBN", 0xF00F#16, 0x8007#16⟩,
    ⟨"SHL", 0xF00F#16, 0x800E#16⟩ ]

/-- Classes 9 to E of R104. -/
def opcodeRowsHigh : List OpcodeRow :=
  [ ⟨"SNE_reg", 0xF00F#16, 0x9000#16⟩,
    ⟨"LD_I", 0xF000#16, 0xA000#16⟩,
    ⟨"JP_V0", 0xF000#16, 0xB000#16⟩,
    ⟨"RND", 0xF000#16, 0xC000#16⟩,
    ⟨"DRW", 0xF000#16, 0xD000#16⟩,
    ⟨"SKP", 0xF0FF#16, 0xE09E#16⟩,
    ⟨"SKNP", 0xF0FF#16, 0xE0A1#16⟩ ]

/-- Class F of R104. -/
def opcodeRowsF : List OpcodeRow :=
  [ ⟨"LD_Vx_DT", 0xF0FF#16, 0xF007#16⟩,
    ⟨"LD_Vx_K", 0xF0FF#16, 0xF00A#16⟩,
    ⟨"LD_DT_Vx", 0xF0FF#16, 0xF015#16⟩,
    ⟨"LD_ST_Vx", 0xF0FF#16, 0xF018#16⟩,
    ⟨"ADD_I_Vx", 0xF0FF#16, 0xF01E#16⟩,
    ⟨"LD_F_Vx", 0xF0FF#16, 0xF029#16⟩,
    ⟨"LD_B_Vx", 0xF0FF#16, 0xF033#16⟩,
    ⟨"LD__I__Vx", 0xF0FF#16, 0xF055#16⟩,
    ⟨"LD_Vx__I", 0xF0FF#16, 0xF065#16⟩ ]

/-- The opcode table, 34 rows (R104). -/
def opcodeTable : List OpcodeRow :=
  opcodeRowsLow ++ opcodeRowsAlu ++ opcodeRowsHigh ++ opcodeRowsF

/-- `op & mask = match` (R104). -/
def OpcodeRow.accepts (r : OpcodeRow) (op : Word) : Bool :=
  op &&& r.mask == r.pattern

/-- A word is recognised when some row of the table accepts it (R104, R112). -/
def recognised (op : Word) : Bool :=
  opcodeTable.any (fun r => r.accepts op)

/-- The words a lenient decoder could execute where the strict one does not (R113): class 0 with low nibble `0` or `E` but for
`00E0` and `00EE`, and classes 5 and 9 with `N` not 0. -/
def decodeAmbiguous (op : Word) : Bool :=
  (op &&& 0xF00F#16 == 0x0000#16 || op &&& 0xF00F#16 == 0x000E#16) && op != 0x00E0#16 && op != 0x00EE#16
    || op &&& 0xF000#16 == 0x5000#16 && op &&& 0x000F#16 != 0#16
    || op &&& 0xF000#16 == 0x9000#16 && op &&& 0x000F#16 != 0#16

/-- The font region holds 16 glyphs of 5 bytes (R65). -/
def fontLength : Nat := 80

/-- The longest program image, `4096 - 0x200` bytes (R67). -/
def maxProgramLength : Nat := 3584

/-- An image can be launched when its font fills the font region and its program fits (R65, R67, R353). -/
def Image.wf (img : Image) : Bool :=
  img.font.length == fontLength && img.program.length ≤ maxProgramLength

end Sys2Proof
end

