-- ==== Sys2Proof/Decode.lean ====
section
/-!
DEFINITION. Decoding and encoding (spec/30_encoding.md): the fields R102, the two-level dispatch R105 to R110, the unrecognised
set R112, and the encoder from the same formats R103.
-/

namespace Sys2Proof

/-- `op[15:12]`, the class (R102). -/
def fieldClass (op : Word) : BitVec 4 := op.extractLsb' 12 4

/-- `X = op[11:8]` (R102). -/
def fieldX (op : Word) : Reg := (op.extractLsb' 8 4).toFin

/-- `Y = op[7:4]` (R102). -/
def fieldY (op : Word) : Reg := (op.extractLsb' 4 4).toFin

/-- `N = op[3:0]` (R102). -/
def fieldN (op : Word) : BitVec 4 := op.extractLsb' 0 4

/-- `NN = op[7:0]` (R102). -/
def fieldNN (op : Word) : Byte := op.extractLsb' 0 8

/-- `NNN = op[11:0]` (R102). -/
def fieldNNN (op : Word) : BitVec 12 := op.extractLsb' 0 12

/-- Why bytes are no instruction: fewer than two of them, or an unrecognised word, by its class in the table of R112. -/
inductive Reject where
  /-- Fewer than 2 bytes: every instruction is 2 bytes (R115). -/
  | truncated
  /-- Class 0, neither `00E0` nor `00EE` (R106). -/
  | unrecognised0
  /-- `5XYN` with `N` not 0 (R107). -/
  | unrecognised5
  /-- `8XYN` with `N` in 8 to D or F (R108). -/
  | unrecognised8
  /-- `9XYN` with `N` not 0 (R107). -/
  | unrecognised9
  /-- `EXNN` with `NN` neither `9E` nor `A1` (R109). -/
  | unrecognisedE
  /-- `FXNN` with `NN` none of the nine of R110. -/
  | unrecognisedF
deriving DecidableEq, Repr

/-- What the decoder reads from a word or from bytes. -/
inductive Decoded (α : Type) where
  | instr (a : α)
  | rejected (why : Reject)
deriving DecidableEq, Repr

/-- Class 0: the whole word is compared (R106). -/
def decodeClass0 (op : Word) : Decoded Instr :=
  if op = 0x00E0#16 then .instr .cls
  else if op = 0x00EE#16 then .instr .ret
  else .rejected .unrecognised0

/-- Class 8: the sub-lookup by the low nibble (R108). -/
def decodeClass8 (op : Word) : Decoded Instr :=
  match (fieldN op).toNat with
  | 0x0 => .instr (.ldReg (fieldX op) (fieldY op))
  | 0x1 => .instr (.or (fieldX op) (fieldY op))
  | 0x2 => .instr (.and (fieldX op) (fieldY op))
  | 0x3 => .instr (.xor (fieldX op) (fieldY op))
  | 0x4 => .instr (.addReg (fieldX op) (fieldY op))
  | 0x5 => .instr (.sub (fieldX op) (fieldY op))
  | 0x6 => .instr (.shr (fieldX op) (fieldY op))
  | 0x7 => .instr (.subn (fieldX op) (fieldY op))
  | 0xE => .instr (.shl (fieldX op) (fieldY op))
  | _ => .rejected .unrecognised8

/-- Class E: the sub-lookup by the low byte (R109). -/
def decodeClassE (op : Word) : Decoded Instr :=
  match (fieldNN op).toNat with
  | 0x9E => .instr (.skp (fieldX op))
  | 0xA1 => .instr (.sknp (fieldX op))
  | _ => .rejected .unrecognisedE

/-- Class F: the sub-lookup by the low byte (R110). -/
def decodeClassF (op : Word) : Decoded Instr :=
  match (fieldNN op).toNat with
  | 0x07 => .instr (.ldVxDt (fieldX op))
  | 0x0A => .instr (.ldVxK (fieldX op))
  | 0x15 => .instr (.ldDtVx (fieldX op))
  | 0x18 => .instr (.ldStVx (fieldX op))
  | 0x1E => .instr (.addIVx (fieldX op))
  | 0x29 => .instr (.ldFVx (fieldX op))
  | 0x33 => .instr (.ldBVx (fieldX op))
  | 0x55 => .instr (.storeRegs (fieldX op))
  | 0x65 => .instr (.loadRegs (fieldX op))
  | _ => .rejected .unrecognisedF

/-- Strict decoding of a word: by class, then by the sub-lookups (R105 to R110; `STRICT_DECODE` true, log 12).
The class has 4 bits, so the last arm is class F. -/
def decodeWord (op : Word) : Decoded Instr :=
  match (fieldClass op).toNat with
  | 0x0 => decodeClass0 op
  | 0x1 => .instr (.jp (fieldNNN op))
  | 0x2 => .instr (.call (fieldNNN op))
  | 0x3 => .instr (.se (fieldX op) (fieldNN op))
  | 0x4 => .instr (.sne (fieldX op) (fieldNN op))
  | 0x5 => if fieldN op = 0 then .instr (.seReg (fieldX op) (fieldY op)) else .rejected .unrecognised5
  | 0x6 => .instr (.ld (fieldX op) (fieldNN op))
  | 0x7 => .instr (.add (fieldX op) (fieldNN op))
  | 0x8 => decodeClass8 op
  | 0x9 => if fieldN op = 0 then .instr (.sneReg (fieldX op) (fieldY op)) else .rejected .unrecognised9
  | 0xA => .instr (.ldI (fieldNNN op))
  | 0xB => .instr (.jpV0 (fieldNNN op))
  | 0xC => .instr (.rnd (fieldX op) (fieldNN op))
  | 0xD => .instr (.drw (fieldX op) (fieldY op) (fieldN op))
  | 0xE => decodeClassE op
  | _ => decodeClassF op

/-- The two bytes of an instruction make a word big-endian: the byte at the lower address is `op[15:8]` (R70, R100). -/
def joinBytes (hi lo : Byte) : Word := hi ++ lo

/-- `op[15:8]`, the byte at the lower address (R70). -/
def highByte (op : Word) : Byte := op.extractLsb' 8 8

/-- `op[7:0]`, the byte at the higher address (R70). -/
def lowByte (op : Word) : Byte := op.extractLsb' 0 8

/-- Decode the instruction at the head of a list of bytes; total on any bytes (R100, R115). -/
def decodeBytes : List Byte → Decoded (Instr × List Byte)
  | hi :: lo :: rest =>
    match decodeWord (joinBytes hi lo) with
    | .instr i => .instr (i, rest)
    | .rejected why => .rejected why
  | _ => .rejected .truncated

/-- The word whose bits the opcode table numbers, from `nbits` bits given as a number: a row is one 16-bit word, bit 0 its least
significant (R10), and every bit above `nbits` is 0. -/
def tableWord (nbits w : Nat) : Word := BitVec.ofNat 16 (w % 2 ^ nbits)

/-- The instruction the decoder reads from a table word laid out as the hardware stores it, high byte first (R70). -/
def decodeTableWord (nbits w : Nat) : Option Instr :=
  match decodeBytes [highByte (tableWord nbits w), lowByte (tableWord nbits w)] with
  | .instr (i, _) => some i
  | .rejected _ => none

/-! ### Encoding, from the formats of R103 -/

/-- Format `NNN`: class, address. -/
def formatNNN (cls : BitVec 4) (nnn : BitVec 12) : Word := cls ++ nnn

/-- Formats `XNN` and `X`: class, register, byte. -/
def formatXNN (cls : BitVec 4) (x : Reg) (nn : Byte) : Word := cls ++ (BitVec.ofFin x : BitVec 4) ++ nn

/-- Formats `XY` and `XYN`: class, two registers, nibble. -/
def formatXYN (cls : BitVec 4) (x y : Reg) (n : BitVec 4) : Word :=
  cls ++ (BitVec.ofFin x : BitVec 4) ++ (BitVec.ofFin y : BitVec 4) ++ n

/-- The word of an instruction (R103, R104). -/
def encode : Instr → Word
  | .cls => 0x00E0#16
  | .ret => 0x00EE#16
  | .jp nnn => formatNNN 0x1#4 nnn
  | .call nnn => formatNNN 0x2#4 nnn
  | .se x nn => formatXNN 0x3#4 x nn
  | .sne x nn => formatXNN 0x4#4 x nn
  | .seReg x y => formatXYN 0x5#4 x y 0x0#4
  | .ld x nn => formatXNN 0x6#4 x nn
  | .add x nn => formatXNN 0x7#4 x nn
  | .ldReg x y => formatXYN 0x8#4 x y 0x0#4
  | .or x y => formatXYN 0x8#4 x y 0x1#4
  | .and x y => formatXYN 0x8#4 x y 0x2#4
  | .xor x y => formatXYN 0x8#4 x y 0x3#4
  | .addReg x y => formatXYN 0x8#4 x y 0x4#4
  | .sub x y => formatXYN 0x8#4 x y 0x5#4
  | .shr x y => formatXYN 0x8#4 x y 0x6#4
  | .subn x y => formatXYN 0x8#4 x y 0x7#4
  | .shl x y => formatXYN 0x8#4 x y 0xE#4
  | .sneReg x y => formatXYN 0x9#4 x y 0x0#4
  | .ldI nnn => formatNNN 0xA#4 nnn
  | .jpV0 nnn => formatNNN 0xB#4 nnn
  | .rnd x nn => formatXNN 0xC#4 x nn
  | .drw x y n => formatXYN 0xD#4 x y n
  | .skp x => formatXNN 0xE#4 x 0x9E#8
  | .sknp x => formatXNN 0xE#4 x 0xA1#8
  | .ldVxDt x => formatXNN 0xF#4 x 0x07#8
  | .ldVxK x => formatXNN 0xF#4 x 0x0A#8
  | .ldDtVx x => formatXNN 0xF#4 x 0x15#8
  | .ldStVx x => formatXNN 0xF#4 x 0x18#8
  | .addIVx x => formatXNN 0xF#4 x 0x1E#8
  | .ldFVx x => formatXNN 0xF#4 x 0x29#8
  | .ldBVx x => formatXNN 0xF#4 x 0x33#8
  | .storeRegs x => formatXNN 0xF#4 x 0x55#8
  | .loadRegs x => formatXNN 0xF#4 x 0x65#8

/-- The row of the opcode table an instruction belongs to, by its mnemonic there. -/
def mnemonicOf : Instr → String
  | .cls => "CLS"
  | .ret => "RET"
  | .jp _ => "JP"
  | .call _ => "CALL"
  | .se _ _ => "SE"
  | .sne _ _ => "SNE"
  | .seReg _ _ => "SE_reg"
  | .ld _ _ => "LD"
  | .add _ _ => "ADD"
  | .ldReg _ _ => "LD_reg"
  | .or _ _ => "OR"
  | .and _ _ => "AND"
  | .xor _ _ => "XOR"
  | .addReg _ _ => "ADD_reg"
  | .sub _ _ => "SUB"
  | .shr _ _ => "SHR"
  | .subn _ _ => "SUBN"
  | .shl _ _ => "SHL"
  | .sneReg _ _ => "SNE_reg"
  | .ldI _ => "LD_I"
  | .jpV0 _ => "JP_V0"
  | .rnd _ _ => "RND"
  | .drw _ _ _ => "DRW"
  | .skp _ => "SKP"
  | .sknp _ => "SKNP"
  | .ldVxDt _ => "LD_Vx_DT"
  | .ldVxK _ => "LD_Vx_K"
  | .ldDtVx _ => "LD_DT_Vx"
  | .ldStVx _ => "LD_ST_Vx"
  | .addIVx _ => "ADD_I_Vx"
  | .ldFVx _ => "LD_F_Vx"
  | .ldBVx _ => "LD_B_Vx"
  | .storeRegs _ => "LD__I__Vx"
  | .loadRegs _ => "LD_Vx__I"

end Sys2Proof
end

