-- ==== Sys2Proof/Machine/Hardware.lean ====
section
/-!
DEFINITION. The configuration this hardware takes: the third column of spec/00_scope.md R9.
-/

namespace Sys2Proof.Machine

/-- The values of R9: `STACK_DEPTH = 16`, the four Booleans true, and the two open points free values. -/
def hardware : Config where
  stackDepth := some 16
  rndMasked := true
  keywaitBlocks := true
  unrecognizedAdvances := true
  strictDecode := true
  rand := Config.freeRand
  keySelect := Config.freeKeySelect

end Sys2Proof.Machine
end

