-- ==== Sys2Proof/Machine/State.lean ====
section
/-!
DEFINITION. The state of the machine as plain data (spec/10_state.md), why a step could stop, and the state after reset (R45).
-/

namespace Sys2Proof.Machine

/-- Whether ticks have an effect (R37): only in `running`. -/
inductive RunState where
  | running
  | faulted
  | stopped
deriving DecidableEq, Repr

/-- A fatal condition with what it reports (R301, R302, R303). -/
inductive Fatal where
  /-- An access names `addr > 0xFFF`; `addr` is the lowest such address of the access list (R301). -/
  | memOutOfRange (addr : Nat)
  /-- RET on an empty stack (R302). -/
  | stackUnderflow
  /-- CALL on a full stack (R303, D9). -/
  | stackOverflow
deriving DecidableEq, Repr

/-- The output event `Unrecognized(op, pc)`: the word and its address (R308). -/
structure Report where
  op : Word
  pc : Word
deriving DecidableEq, Repr

/-- Memory (R60): the cells that do not read as 0, addresses strictly rising (`Memory.wf`). An unlisted address reads as 0, the
reset content of every byte (R45; log 17). -/
abbrev Memory := List Host.Cell

/-- The framebuffer, `fb[x][y]` with column `x` 0 to 63 and row `y` 0 to 31 (R32, R33; log 16). -/
abbrev Framebuffer := Vector (Vector Bool 32) 64

/-- Everything the spec gives the machine (spec/10_state.md), and `draws`, the model's own field. -/
structure State where
  /-- `V[0]` … `V[15]` (R20). -/
  v : Vector Byte 16
  /-- The index register `I` (R24). -/
  i : Word
  /-- The program counter (R25). -/
  pc : Word
  /-- The call stack, the top first; `depth` is its length (R28; log 27). -/
  stack : List Word
  /-- The delay timer `DT` (R30). -/
  dt : Byte
  /-- The sound timer `ST` (R31). -/
  st : Byte
  /-- The 4096 bytes of memory (R60). -/
  mem : Memory
  /-- The framebuffer (R32). -/
  fb : Framebuffer
  /-- Set by CLS and DRW, cleared by the host only (R34). -/
  redraw : Bool
  /-- The tone command, written in phase (b) of a tick only (R35). -/
  toneOn : Bool
  /-- The level of each key, an input the host sets between ticks (R36). -/
  keys : Vector Bool 16
  /-- RUNNING, FAULTED or STOPPED (R37). -/
  runState : RunState
  /-- 0 none, 1 `MemOutOfRange`, 2 `StackUnderflow`, 3 `StackOverflow` (R38). -/
  faultCode : BitVec 2
  /-- The offending address for code 1, else 0 (R38). -/
  faultInfo : Word
  /-- The `Unrecognized` reports made so far, the newest first (R308, D30; log 11). -/
  reports : List Report
  /-- How many free values have been drawn: the MODEL's own field (R40, R252; log 7). -/
  draws : Nat
deriving DecidableEq, Repr

/-- Why a step ends the run outside the machine. NO CONSTRUCTOR: every fatal condition of this hardware has an entry the spec
describes (R304), so the model takes it as a next state with `runState` FAULTED, and nothing else stops the machine (log 1). -/
inductive Fault where
deriving DecidableEq, Repr

/-- Why the model gives a step no meaning. -/
inductive Refusal where
  /-- Raised by an arm of `exec` for an instruction without a meaning; no arm does. Safe. -/
  | notModelled (mnemonic : String)
  /-- Raised by a tick that fetches a word of R113 under a configuration with `STRICT_DECODE` false, which this hardware does not
  take: the spec does not say which word a lenient decoder executes (R113, U2; log 12). Safe. -/
  | decodeAmbiguous (op : Word)
deriving DecidableEq, Repr

/-- The machine right after reset (R45, R350): `pc`, memory and the stack as the source states them, the other registers 0 by
the spec's decisions D17 and D18 (log 2, 3), no key pressed (log 4). -/
def State.reset : State where
  v := Vector.replicate 16 0#8
  i := 0#16
  pc := 0x200#16
  stack := []
  dt := 0#8
  st := 0#8
  mem := []
  fb := Vector.replicate 64 (Vector.replicate 32 false)
  redraw := false
  toneOn := false
  keys := Vector.replicate 16 false
  runState := .running
  faultCode := 0#2
  faultInfo := 0#16
  reports := []
  draws := 0

end Sys2Proof.Machine
end

