-- ==== Sys2Proof/Machine/Memory.lean ====
section
/-!
DEFINITION. The byte array (spec/20_memory.md R60 to R62) as a canonical list of cells.
-/

namespace Sys2Proof.Machine

/-- The highest address that exists, `0xFFF` (R60). -/
def lastAddress : Nat := 0xFFF

/-- `mem[a]`: the listed byte, or 0, the reset content (R45, R61). -/
def Memory.read : Memory → Nat → Byte
  | [], _ => 0#8
  | (b, w) :: rest, a => if a = b then w else Memory.read rest a

/-- A cell in front of a list, left out when it holds what an unlisted address reads as. -/
def Memory.cell (a : Nat) (w : Byte) (m : Memory) : Memory :=
  if w = 0#8 then m else (a, w) :: m

/-- `mem[a] <- w`, and no other byte changes (R62); it keeps the canonical form. -/
def Memory.write : Memory → Nat → Byte → Memory
  | [], a, w => Memory.cell a w []
  | (b, u) :: rest, a, w =>
    if a < b then Memory.cell a w ((b, u) :: rest)
    else if a = b then Memory.cell a w rest
    else (b, u) :: Memory.write rest a w

/-- Bytes at ascending addresses from `a` (R70, R202). -/
def Memory.writeBytes : Memory → Nat → List Byte → Memory
  | m, _, [] => m
  | m, a, w :: ws => Memory.writeBytes (m.write a w) (a + 1) ws

/-- Every cell of the list lies at `lo` or above, at an address that exists, with addresses strictly rising, and none reads as an
unlisted address does. -/
def Memory.wfFrom : Nat → Memory → Bool
  | _, [] => true
  | lo, (a, w) :: rest => decide (lo ≤ a) && decide (a ≤ lastAddress) && (w != 0#8) && Memory.wfFrom (a + 1) rest

/-- The canonical form: equal memories are equal lists (log 17). -/
def Memory.wf (m : Memory) : Bool := Memory.wfFrom 0 m

end Sys2Proof.Machine
end

