-- ==== Sys2Proof/Machine/Operands.lean ====
section
/-!
DEFINITION. Operand forms: immediates and bytes widened with zeros (spec/30_encoding.md R114), the register ranges of the block
transfers, and the one addressing mode, base `I` plus an enumerated offset (spec/42_index_memory.md R202).
-/

namespace Sys2Proof.Machine

/-- `zext_16` of an address immediate (R11, R114). -/
def zextAddress (nnn : BitVec 12) : Word := nnn.setWidth 16

/-- `zext_16` of a byte (R11). -/
def zextByte (b : Byte) : Word := b.setWidth 16

/-- The code of a key as a register value (R257). -/
def keyByte (k : KeyCode) : Byte := BitVec.ofNat 8 k.val

/-- The registers of the file in ascending order (R20). -/
def allRegs : List Reg := [0, 1, 2, 3, 4, 5, 6, 7, 8, 9, 10, 11, 12, 13, 14, 15]

/-- The key codes in ascending order (R36). -/
def allKeys : List KeyCode := [0, 1, 2, 3, 4, 5, 6, 7, 8, 9, 10, 11, 12, 13, 14, 15]

/-- `V[0]` … `V[X]`, inclusive (R206, R207). -/
def regsUpTo (x : Reg) : List Reg := allRegs.filter (fun r => r.val ≤ x.val)

/-- The addresses of a transfer of `n` bytes, `base + i` for `i` from 0, natural numbers that are never reduced (R63, R202). -/
def accessList (base n : Nat) : List Nat := (List.range n).map (fun k => base + k)

/-- The first address of an ascending access list that does not exist, which is the lowest (R73). -/
def firstOutOfRange (addrs : List Nat) : Option Nat := addrs.find? (fun a => decide (lastAddress < a))

/-- The address of font glyph `d`: `0x50 + 5 * d`, the whole byte used (R65, R204, D29; log 20). -/
def glyphAddress (d : Byte) : Word := 0x50#16 + 5#16 * zextByte d

/-- The three decimal digits of a byte, hundreds first (R205). -/
def decimalDigits (b : Byte) : List Byte := [b / 100#8, (b / 10#8) % 10#8, b % 10#8]

end Sys2Proof.Machine
end

