-- ==== Sys2Proof/Machine/Ops.lean ====
section
/-!
DEFINITION. The named operations every meaning is written with (spec/00_scope.md R12): one update per piece of state, register
access, `pc`, the stack, memory access with its range check, the free values, and the entry of a fatal condition (R304).
There is no return from a fatal condition: "There is no instruction or event that returns from a fault and resumes the program" (R306).
-/

namespace Sys2Proof.Machine

/-! ### Registers -/

/-- `V[r]` (R20). -/
def State.reg (s : State) (r : Reg) : Byte := s.v.get r

/-- `V[r] <- b` (R20): no other register changes, `VF` is written like any other (R21). -/
def State.writeReg (s : State) (r : Reg) (b : Byte) : State := { s with v := s.v.set r.val b r.isLt }

/-- `V[15] <- b` as a flag (R21, R23). -/
def State.setFlag (s : State) (b : Byte) : State := s.writeReg VF b

/-- `I <- a` (R24). -/
def State.setI (s : State) (a : Word) : State := { s with i := a }

/-- `DT <- b` (R30). -/
def State.setDt (s : State) (b : Byte) : State := { s with dt := b }

/-- `ST <- b` (R31). -/
def State.setSt (s : State) (b : Byte) : State := { s with st := b }

/-- `tone_on <- b` (R35). -/
def State.setTone (s : State) (b : Bool) : State := { s with toneOn := b }

/-- `mem <- m`. -/
def State.setMem (s : State) (m : Memory) : State := { s with mem := m }

/-- `fb <- f` (R32). -/
def State.setFb (s : State) (f : Framebuffer) : State := { s with fb := f }

/-- `redraw <- b` (R34): the core only ever sets it, the host clears it. -/
def State.setRedraw (s : State) (b : Bool) : State := { s with redraw := b }

/-! ### Program counter and stack -/

/-- `pc <- a` (R25), never masked (R27, D12; log 19). -/
def State.setPc (s : State) (a : Word) : State := { s with pc := a }

/-- `pc <- pc + 2` modulo 65536 (R26, R27). -/
def State.advance (s : State) : State := s.setPc (s.pc + 2#16)

/-- Skip: `pc <- pc + 4` if the condition holds, else `pc <- pc + 2` (R148). -/
def State.skipIf (s : State) (c : Bool) : State := s.setPc (s.pc + if c then 4#16 else 2#16)

/-- The stack replaced (R28). -/
def State.setStack (s : State) (l : List Word) : State := { s with stack := l }

/-- `push(a)`: `a` becomes the top (R28). -/
def State.push (s : State) (a : Word) : State := s.setStack (a :: s.stack)

/-- Whether the stack has `STACK_DEPTH` entries; an unbounded stack is never full (R29, D9; log 8). -/
def stackFull (c : Config) (s : State) : Bool :=
  match c.stackDepth with
  | some d => s.stack.length == d
  | none => false

/-! ### Fatal conditions -/

/-- The fault code (R38, R301 to R303). -/
def Fatal.code : Fatal → BitVec 2
  | .memOutOfRange _ => 1#2
  | .stackUnderflow => 2#2
  | .stackOverflow => 3#2

/-- The fault information: the lowest offending address, which fits 16 bits (R301), or 0 (R302, R303). -/
def Fatal.info : Fatal → Word
  | .memOutOfRange a => BitVec.ofNat 16 a
  | .stackUnderflow => 0#16
  | .stackOverflow => 0#16

/-- Fault entry (R304): the run state and the fault record are written, nothing else changes; `pc` stays on the faulting
instruction. -/
def State.raise (s : State) (f : Fatal) : State :=
  { s with runState := .faulted, faultCode := f.code, faultInfo := f.info }

/-- A transfer over an ascending access list: if an address does not exist the lowest such one is raised and nothing else
happens, else the transfer's own effect stands (R73, R305, D14; log 18). -/
def State.guarded (s : State) (addrs : List Nat) (done : State) : State :=
  match firstOutOfRange addrs with
  | some a => s.raise (.memOutOfRange a)
  | none => done

/-! ### Memory access by the core -/

/-- What an operation that may raise answers. -/
inductive Access (α : Type) where
  | value (a : α)
  | fatal (f : Fatal)
deriving DecidableEq, Repr

/-- `MemRead(addr, 1)` (R61). -/
def memRead (m : Memory) (addr : Nat) : Access Byte :=
  if lastAddress < addr then .fatal (.memOutOfRange addr) else .value (m.read addr)

/-- `MemWrite(addr, 1, b)` (R62). -/
def memWrite (m : Memory) (addr : Nat) (b : Byte) : Access Memory :=
  if lastAddress < addr then .fatal (.memOutOfRange addr) else .value (m.write addr b)

/-- The bytes at an access list, in order (R69). -/
def State.bytesAt (s : State) (addrs : List Nat) : List Byte := addrs.map s.mem.read

/-! ### Keys -/

/-- Whether the key named by a whole byte is pressed: a code above `0xF` names no key and is not pressed (R257, D8; log 21). -/
def State.keyPressed (s : State) (b : Byte) : Bool :=
  if h : b.toNat < 16 then s.keys.get ⟨b.toNat, h⟩ else false

/-- The set `P` of the pressed keys, as a list in ascending order (R252). -/
def State.pressedKeys (s : State) : List KeyCode := allKeys.filter (fun k => s.keys.get k)

/-! ### Free values -/

/-- The byte of this draw, `draw_rand()` (R12, R40; log 5). -/
def State.randByte (c : Config) (s : State) : Byte := c.rand s.draws

/-- `KEY_SELECT(P)` of this draw for `P` with first member `k`: always a member of `P` (R252, D7; log 6). -/
def selectKey (c : Config) (s : State) (k : KeyCode) (ks : List KeyCode) : KeyCode :=
  (k :: ks).getD (c.keySelect s.draws (k :: ks) % (ks.length + 1)) k

/-- A draw has been made; the next one is fresh (log 7). -/
def State.nextDraw (s : State) : State := { s with draws := s.draws + 1 }

/-! ### Unrecognised opcodes -/

/-- `report Unrecognized(op, pc)` (R308; log 11). -/
def State.report (s : State) (op : Word) : State := { s with reports := ⟨op, s.pc⟩ :: s.reports }

/-- An unrecognised opcode: reported, and `pc <- pc + 2` when `UNRECOGNIZED_ADVANCES` (R308, D3; log 11). -/
def unrecognised (c : Config) (op : Word) (s : State) : State :=
  if c.unrecognizedAdvances then (s.report op).advance else s.report op

/-! ### The host's changes -/

/-- `keys[k] <- b` (R330). -/
def State.setKey (s : State) (k : KeyCode) (b : Bool) : State := { s with keys := s.keys.set k.val b k.isLt }

/-- `run_state <- r` (R37). -/
def State.setRun (s : State) (r : RunState) : State := { s with runState := r }

end Sys2Proof.Machine
end

