-- ==== Sys2Proof/Machine/ControlFlow.lean ====
section
/-!
DEFINITION. Control flow (spec/40_control_flow.md): RET, JP, CALL, SE, SNE, SE reg, SNE reg, JP V0.
-/

namespace Sys2Proof.Machine

/-- What a meaning answers. -/
abbrev Result := Host.Outcome State Fault Refusal

/-- RET on a given stack: `pc <- pop() + 2`, or `StackUnderflow` on an empty one (R140). -/
def returnFrom (s : State) : State :=
  match s.stack with
  | [] => s.raise .stackUnderflow
  | a :: rest => (s.setStack rest).setPc (a + 2#16)

/-- CALL: `push(pc)`, `pc <- target`, or `StackOverflow` on a full stack (R142). -/
def callTo (c : Config) (target : Word) (s : State) : State :=
  if stackFull c s then s.raise .stackOverflow else (s.push s.pc).setPc target

/-- `00EE` RET (R140). -/
def execRet (s : State) : Result := .next (returnFrom s)

/-- `1NNN` JP addr (R141). -/
def execJp (nnn : BitVec 12) (s : State) : Result := .next (s.setPc (zextAddress nnn))

/-- `2NNN` CALL addr (R142). -/
def execCall (nnn : BitVec 12) (s : State) : Result := .next (callTo hardware (zextAddress nnn) s)

/-- `3XNN` SE Vx, NN (R143). -/
def execSe (x : Reg) (nn : Byte) (s : State) : Result := .next (s.skipIf (s.reg x == nn))

/-- `4XNN` SNE Vx, NN (R144). -/
def execSne (x : Reg) (nn : Byte) (s : State) : Result := .next (s.skipIf (s.reg x != nn))

/-- `5XY0` SE Vx, Vy (R145). -/
def execSeReg (x y : Reg) (s : State) : Result := .next (s.skipIf (s.reg x == s.reg y))

/-- `9XY0` SNE Vx, Vy (R146). -/
def execSneReg (x y : Reg) (s : State) : Result := .next (s.skipIf (s.reg x != s.reg y))

/-- `BNNN` JP V0, addr: always `V[0]`, the sum not masked (R147, D12; log 19). -/
def execJpV0 (nnn : BitVec 12) (s : State) : Result := .next (s.setPc (zextAddress nnn + zextByte (s.reg 0)))

end Sys2Proof.Machine
end

