-- ==== Sys2Proof/Machine/Flags.lean ====
section
/-!
DEFINITION. The flag values written into `VF` (spec/10_state.md R23, spec/41_alu.md R182).
-/

namespace Sys2Proof.Machine

/-- A flag is the byte 1 or 0 (R23). -/
def flagByte (b : Bool) : Byte := if b then 1#8 else 0#8

/-- 8XY4: 1 if the unsigned sum exceeds 255 (R176). -/
def carryFlag (a b : Byte) : Byte := flagByte (decide (255 < a.toNat + b.toNat))

/-- 8XY5: 1 if `a >= b`, no borrow (R177). -/
def noBorrowFlag (a b : Byte) : Byte := flagByte (decide (b.toNat ≤ a.toNat))

/-- 8XY7: 1 if `b > a` strictly (R179, D33; log 14). -/
def strictlyGreaterFlag (b a : Byte) : Byte := flagByte (decide (a.toNat < b.toNat))

/-- 8XY6: bit 0, the bit a right shift loses (R178). -/
def shiftedOutRight (b : Byte) : Byte := b &&& 1#8

/-- 8XYE: bit 7, the bit a left shift loses (R180). -/
def shiftedOutLeft (b : Byte) : Byte := (b &&& 0x80#8) >>> 7

end Sys2Proof.Machine
end

