-- ==== Sys2Proof/Machine/Alu.lean ====
section
/-!
DEFINITION. Register load, arithmetic, logic, shift and random instructions (spec/41_alu.md). Every one ends with `pc <- pc + 2`.
-/

namespace Sys2Proof.Machine

/-- `V[x] <- b`, `pc <- pc + 2`. -/
def assign (x : Reg) (b : Byte) (s : State) : State := (s.writeReg x b).advance

/-- 8XY4, 8XY5, 8XY7: the result first, the flag last (R183, D20; log 13). -/
def assignThenFlag (x : Reg) (b flag : Byte) (s : State) : State := ((s.writeReg x b).setFlag flag).advance

/-- 8XY6, 8XYE: the flag first, then `V[x]` as it stands after the flag write is shifted (R183, D20; log 13). -/
def flagThenShift (x : Reg) (flag : Byte) (shift : Byte → Byte) (s : State) : State :=
  ((s.setFlag flag).writeReg x (shift ((s.setFlag flag).reg x))).advance

/-- CXNN: one byte is drawn, and ANDed with `NN` when `RND_MASKED` (R181, D4; log 9). -/
def randomTo (c : Config) (x : Reg) (nn : Byte) (s : State) : State :=
  (assign x (if c.rndMasked then s.randByte c &&& nn else s.randByte c) s).nextDraw

/-- `6XNN` LD Vx, NN (R170). -/
def execLd (x : Reg) (nn : Byte) (s : State) : Result := .next (assign x nn s)

/-- `7XNN` ADD Vx, NN: wraps, no flag (R171). -/
def execAdd (x : Reg) (nn : Byte) (s : State) : Result := .next (assign x (s.reg x + nn) s)

/-- `8XY0` LD Vx, Vy (R172). -/
def execLdReg (x y : Reg) (s : State) : Result := .next (assign x (s.reg y) s)

/-- `8XY1` OR Vx, Vy: no flag (R173). -/
def execOr (x y : Reg) (s : State) : Result := .next (assign x (s.reg x ||| s.reg y) s)

/-- `8XY2` AND Vx, Vy: no flag (R174). -/
def execAnd (x y : Reg) (s : State) : Result := .next (assign x (s.reg x &&& s.reg y) s)

/-- `8XY3` XOR Vx, Vy: no flag (R175). -/
def execXor (x y : Reg) (s : State) : Result := .next (assign x (s.reg x ^^^ s.reg y) s)

/-- `8XY4` ADD Vx, Vy: `VF` is the carry (R176). -/
def execAddReg (x y : Reg) (s : State) : Result :=
  .next (assignThenFlag x (s.reg x + s.reg y) (carryFlag (s.reg x) (s.reg y)) s)

/-- `8XY5` SUB Vx, Vy: `VF` is 1 when there is no borrow (R177). -/
def execSub (x y : Reg) (s : State) : Result :=
  .next (assignThenFlag x (s.reg x - s.reg y) (noBorrowFlag (s.reg x) (s.reg y)) s)

/-- `8XY6` SHR Vx: `V[Y]` is not read (R178). -/
def execShr (x _y : Reg) (s : State) : Result :=
  .next (flagThenShift x (shiftedOutRight (s.reg x)) (fun b => b >>> 1) s)

/-- `8XY7` SUBN Vx, Vy: `VF` is 1 when `V[Y] > V[X]` strictly (R179). -/
def execSubn (x y : Reg) (s : State) : Result :=
  .next (assignThenFlag x (s.reg y - s.reg x) (strictlyGreaterFlag (s.reg y) (s.reg x)) s)

/-- `8XYE` SHL Vx: `V[Y]` is not read (R180). -/
def execShl (x _y : Reg) (s : State) : Result :=
  .next (flagThenShift x (shiftedOutLeft (s.reg x)) (fun b => b <<< 1) s)

/-- `CXNN` RND Vx, NN (R181). -/
def execRnd (x : Reg) (nn : Byte) (s : State) : Result := .next (randomTo hardware x nn s)

end Sys2Proof.Machine
end

