-- ==== Sys2Proof/Machine/Display.lean ====
section
/-!
DEFINITION. Display instructions (spec/43_display.md): CLS and DRW, drawing pixel by pixel as the pseudocode of R232 does.
-/

namespace Sys2Proof.Machine

/-- `fb[x][y]` (R33). -/
def Framebuffer.cell (fb : Framebuffer) (x : Fin 64) (y : Fin 32) : Bool := (fb.get x).get y

/-- `fb[x][y] <- b`. -/
def Framebuffer.setCell (fb : Framebuffer) (x : Fin 64) (y : Fin 32) (b : Bool) : Framebuffer :=
  fb.set x.val ((fb.get x).set y.val b y.isLt) x.isLt

/-- All cells 0 (R230). -/
def Framebuffer.blank : Framebuffer := Vector.replicate 64 (Vector.replicate 32 false)

/-- A draw in progress: the framebuffer, and whether an XOR has turned a set pixel off in this draw (R232). -/
structure Canvas where
  fb : Framebuffer
  hit : Bool
deriving DecidableEq, Repr

/-- The column `(x0 + c) mod 64`, on natural numbers (R232). -/
def wrapColumn (a : Nat) : Fin 64 := Fin.ofNat 64 a

/-- The row `(y0 + r) mod 32`, on natural numbers (R232). -/
def wrapRow (a : Nat) : Fin 32 := Fin.ofNat 32 a

/-- Sprite column `c` of a row byte: bit `7 - c`, the most significant bit leftmost (R231, D22; log 15). -/
def spriteBit (b : Byte) (c : Nat) : Bool := b.getLsbD (7 - c)

/-- One XOR: the cell is toggled, and a cell that was set is a collision (R232). -/
def Canvas.toggle (k : Canvas) (x : Fin 64) (y : Fin 32) : Canvas :=
  ⟨k.fb.setCell x y (!(k.fb.cell x y)), k.hit || k.fb.cell x y⟩

/-- The pixels of a row byte at the given sprite columns (R232). -/
def Canvas.drawColumns (b : Byte) (x0 y : Nat) : List Nat → Canvas → Canvas
  | [], k => k
  | c :: cs, k =>
    Canvas.drawColumns b x0 y cs (if spriteBit b c then k.toggle (wrapColumn (x0 + c)) (wrapRow y) else k)

/-- The columns of a sprite row (R231). -/
def spriteColumns : List Nat := [0, 1, 2, 3, 4, 5, 6, 7]

/-- The rows of a sprite, top to bottom from row `y` (R231, R232). -/
def Canvas.drawRows (x0 : Nat) : Nat → List Byte → Canvas → Canvas
  | _, [], k => k
  | y, b :: bs, k => Canvas.drawRows x0 (y + 1) bs (k.drawColumns b x0 y spriteColumns)

/-- The canvas after a sprite is drawn on a framebuffer, no collision at its start (R232). -/
def drawSprite (fb : Framebuffer) (x0 y0 : Nat) (rows : List Byte) : Canvas :=
  Canvas.drawRows x0 y0 rows ⟨fb, false⟩

/-- A sprite of `n` rows at `I`, drawn at a position read before `VF` is written (R232, D21; log 15). -/
def drawAt (x0 y0 : Byte) (n : Nat) (s : State) : State :=
  let k := drawSprite s.fb x0.toNat y0.toNat (s.bytesAt (accessList s.i.toNat n))
  s.guarded (accessList s.i.toNat n) ((((s.setFlag (flagByte k.hit)).setFb k.fb).setRedraw true).advance)

/-- `00E0` CLS (R230). -/
def execCls (s : State) : Result := .next (((s.setFb Framebuffer.blank).setRedraw true).advance)

/-- `DXYN` DRW Vx, Vy, N (R232). -/
def execDrw (x y : Reg) (n : BitVec 4) (s : State) : Result := .next (drawAt (s.reg x) (s.reg y) n.toNat s)

end Sys2Proof.Machine
end

