-- ==== Sys2Proof/Machine/IndexMemory.lean ====
section
/-!
DEFINITION. Index register and memory transfers (spec/42_index_memory.md). `I` is unchanged by the transfers (R203).
-/

namespace Sys2Proof.Machine

/-- The bytes stored at `I`, `I+1`, … and `pc <- pc + 2`, or `MemOutOfRange` and no byte stored (R73, R205, R206). -/
def storeBytes (bs : List Byte) (s : State) : State :=
  s.guarded (accessList s.i.toNat bs.length) (s.setMem (s.mem.writeBytes s.i.toNat bs)).advance

/-- `V[r] <- mem[I + r]` for each register of a list, in order (R207). -/
def loadInto (rs : List Reg) (s : State) : State :=
  rs.foldl (fun t r => t.writeReg r (t.mem.read (t.i.toNat + r.val))) s

/-- `ANNN` LD I, addr (R200). -/
def execLdI (nnn : BitVec 12) (s : State) : Result := .next (s.setI (zextAddress nnn)).advance

/-- `FX1E` ADD I, Vx: modulo 65536, no flag (R201, D10; log 20). -/
def execAddIVx (x : Reg) (s : State) : Result := .next (s.setI (s.i + zextByte (s.reg x))).advance

/-- `FX29` LD F, Vx (R204). -/
def execLdFVx (x : Reg) (s : State) : Result := .next (s.setI (glyphAddress (s.reg x))).advance

/-- `FX33` LD B, Vx: the three decimal digits at `I`, `I+1`, `I+2` (R205). -/
def execLdBVx (x : Reg) (s : State) : Result := .next (storeBytes (decimalDigits (s.reg x)) s)

/-- `FX55` LD [I], Vx: `V[0]` … `V[X]` inclusive (R206). -/
def execStoreRegs (x : Reg) (s : State) : Result := .next (storeBytes ((regsUpTo x).map s.reg) s)

/-- `FX65` LD Vx, [I]: `V[0]` … `V[X]` inclusive, or `MemOutOfRange` and no register loaded (R207). -/
def execLoadRegs (x : Reg) (s : State) : Result :=
  .next (s.guarded (accessList s.i.toNat (x.val + 1)) (loadInto (regsUpTo x) s).advance)

end Sys2Proof.Machine
end

