-- ==== Sys2Proof/Machine/KeysTimers.lean ====
section
/-!
DEFINITION. Key and timer instructions (spec/44_keys_timers.md): SKP, SKNP, LD Vx,K, LD Vx,DT, LD DT,Vx, LD ST,Vx.
-/

namespace Sys2Proof.Machine

/-- FX0A: with a key pressed, one of the pressed keys is stored and `pc` advances; with none, nothing changes and `pc` stays
when `KEYWAIT_BLOCKS`, else `pc` advances (R252, D6, D32, D34; log 10). -/
def waitKey (c : Config) (x : Reg) (s : State) : State :=
  match s.pressedKeys with
  | [] => if c.keywaitBlocks then s else s.advance
  | k :: ks => (assign x (keyByte (selectKey c s k ks)) s).nextDraw

/-- `EX9E` SKP Vx (R250). -/
def execSkp (x : Reg) (s : State) : Result := .next (s.skipIf (s.keyPressed (s.reg x)))

/-- `EXA1` SKNP Vx (R251). -/
def execSknp (x : Reg) (s : State) : Result := .next (s.skipIf (!(s.keyPressed (s.reg x))))

/-- `FX07` LD Vx, DT (R253). -/
def execLdVxDt (x : Reg) (s : State) : Result := .next (assign x s.dt s)

/-- `FX0A` LD Vx, K (R252). -/
def execLdVxK (x : Reg) (s : State) : Result := .next (waitKey hardware x s)

/-- `FX15` LD DT, Vx (R254). -/
def execLdDtVx (x : Reg) (s : State) : Result := .next (s.setDt (s.reg x)).advance

/-- `FX18` LD ST, Vx: `tone_on` is not written (R255). -/
def execLdStVx (x : Reg) (s : State) : Result := .next (s.setSt (s.reg x)).advance

end Sys2Proof.Machine
end

