-- ==== Sys2Proof/Machine/Tick.lean ====
section
/-!
DEFINITION. The tick (spec/60_exceptions.md R320): timers, tone, one fetch-decode-execute; the fetch (spec/30_encoding.md R100).
-/

namespace Sys2Proof.Machine

/-- A timer counts down by 1 and stays at 0 (R321). -/
def countDown (b : Byte) : Byte := if b = 0#8 then 0#8 else b - 1#8

/-- Phase (a): both timers count down (R320, R321). -/
def phaseA (s : State) : State := (s.setDt (countDown s.dt)).setSt (countDown s.st)

/-- Phase (b): `tone_on` is set from `ST > 0` (R320, R322, D19; log 22). -/
def phaseB (s : State) : State := s.setTone (decide (0 < s.st.toNat))

/-- The instruction word at `pc`: the byte at `pc`, then the byte at `pc + 1`, a natural number (R100, R101, D16; log 18). -/
def fetch (s : State) : Access Word :=
  match memRead s.mem s.pc.toNat with
  | .fatal f => .fatal f
  | .value hi =>
    match memRead s.mem (s.pc.toNat + 1) with
    | .fatal f => .fatal f
    | .value lo => .value (joinBytes hi lo)

/-- A word the strict decoder rejects: R308, but under a lenient configuration a word of R113 has no meaning (log 12). -/
def rejectWord (c : Config) (op : Word) (s : State) : Result :=
  if c.strictDecode || !(decodeAmbiguous op) then .next (unrecognised c op s) else .refused (.decodeAmbiguous op)

/-- A fetched word: its instruction is executed, or R308 (R320). -/
def dispatchWord (op : Word) (s : State) : Result :=
  match decodeWord op with
  | .instr i => exec i s
  | .rejected _ => rejectWord hardware op s

/-- Phase (c): one fetch-decode-execute step; a fetch that fails is a fatal condition (R101, R304, R320). -/
def phaseC (s : State) : Result :=
  match fetch s with
  | .fatal f => .next (s.raise f)
  | .value op => dispatchWord op s

/-- One tick: the three phases in order if `run_state` is RUNNING, else nothing (R320, R323). -/
def tick (s : State) : Result :=
  match s.runState with
  | .running => phaseC (phaseB (phaseA s))
  | .faulted => .next s
  | .stopped => .next s

/-- Where the next fetch reads a placed word: at `pc`, or at `0x200` when no word can be fetched at `pc` (log 25). -/
def placeAddress (s : State) : Word := if s.pc.toNat < lastAddress then s.pc else 0x200#16

/-- A word stored where the next tick fetches, the machine running (log 25). -/
def placeWord (op : Word) (s : State) : State :=
  ((s.setMem (s.mem.writeBytes (placeAddress s).toNat [highByte op, lowByte op])).setPc (placeAddress s)).setRun .running

end Sys2Proof.Machine
end

