-- ==== Sys2Proof/Machine/Step.lean ====
section
/-!
DEFINITION. One step of the machine is one tick (spec/60_exceptions.md R320).
-/

namespace Sys2Proof.Machine

/-- One `tick` event (R16, R320). -/
def step (s : State) : Host.Outcome State Fault Refusal := tick s

/-- The state with the instruction of an opcode-table word stored where the next step fetches (log 24, 25). -/
def State.withFetchWord (s : State) (nbits w : Nat) : State := placeWord (tableWord nbits w) s

end Sys2Proof.Machine
end

