-- ==== Sys2Proof/Machine/HostActions.lean ====
section
/-!
DEFINITION. The second agent, the host (spec/00_scope.md R15, R16; spec/60_exceptions.md R330, R331): what it may do between two
ticks, and the loader (spec/70_reset_and_hazards.md R350, R352, R353). Reading `fb`, `redraw`, `tone_on`, `run_state`, the fault
record or the reports changes nothing and is a projection of State.
-/

namespace Sys2Proof.Machine

/-- A step of the host that changes state (R330). -/
inductive HostAction where
  /-- Set the level of a key. -/
  | setKey (k : KeyCode) (pressed : Bool)
  /-- Present a frame: `fb` and `redraw` are read, then `redraw <- 0`. -/
  | presentFrame
  /-- Assert `stop` (R331). -/
  | stop
  /-- Assert `reset` (R350). -/
  | reset
deriving DecidableEq, Repr

/-- `stop`: RUNNING becomes STOPPED, nothing else changes; in FAULTED or STOPPED it has no effect (R331, D26; log 23). -/
def stopCore (s : State) : State :=
  match s.runState with
  | .running => s.setRun .stopped
  | .faulted => s
  | .stopped => s

/-- `reset`, in any run state: the reset state of R45. `keys` is an "input, not reset" and keeps its levels; the free values go on
where they are (R45, R350; log 4, 7). -/
def resetCore (s : State) : State := { State.reset with keys := s.keys, draws := s.draws }

/-- What a host step does (R330). -/
def HostAction.apply (a : HostAction) (s : State) : State :=
  match a with
  | .setKey k b => s.setKey k b
  | .presentFrame => s.setRedraw false
  | .stop => stopCore s
  | .reset => resetCore s

/-- An input of the core's interface (R16). -/
inductive Event where
  /-- The core performs a tick. -/
  | tick
  /-- The host acts between two ticks. -/
  | host (a : HostAction)
deriving DecidableEq, Repr

/-- What an event does. -/
def Event.apply (e : Event) (s : State) : Result :=
  match e with
  | .tick => step s
  | .host a => .next (a.apply s)

/-- A history of events from a state, every key history and every moment of `stop` and `reset` among them (R36, R367). -/
def runEvents : List Event → State → Result
  | [], s => .next s
  | e :: es, s =>
    match e.apply s with
    | .next t => runEvents es t
    | .fault f => .fault f
    | .refused r => .refused r

/-- The font base `0x050` (R65). -/
def fontBase : Nat := 0x050

/-- The program base `0x200` (R67). -/
def programBase : Nat := 0x200

/-- The loader: the font, then the program, over the reset memory (R352). -/
def loadImage (img : Image) (m : Memory) : Memory :=
  (m.writeBytes fontBase img.font).writeBytes programBase img.program

/-- The launch state of an image: reset, then the loader, before the first tick; an image that does not fit has none (R352,
R353, D31; log 24). -/
def launch (img : Image) : Option State :=
  if img.wf then some (State.reset.setMem (loadImage img State.reset.mem)) else none

/-- The conventional glyphs of `FONT`, taken from general knowledge by the spec itself (R66, G1; PRESUMED, log 24). -/
def conventionalFont : List Byte :=
  [0xF0, 0x90, 0x90, 0x90, 0xF0] ++ [0x20, 0x60, 0x20, 0x20, 0x70] ++ [0xF0, 0x10, 0xF0, 0x80, 0xF0] ++
  [0xF0, 0x10, 0xF0, 0x10, 0xF0] ++ [0x90, 0x90, 0xF0, 0x10, 0x10] ++ [0xF0, 0x80, 0xF0, 0x10, 0xF0] ++
  [0xF0, 0x80, 0xF0, 0x90, 0xF0] ++ [0xF0, 0x10, 0x20, 0x40, 0x40] ++ [0xF0, 0x90, 0xF0, 0x90, 0xF0] ++
  [0xF0, 0x90, 0xF0, 0x10, 0xF0] ++ [0xF0, 0x90, 0xF0, 0x90, 0x90] ++ [0xE0, 0x90, 0xE0, 0x90, 0xE0] ++
  [0xF0, 0x80, 0x80, 0x80, 0xF0] ++ [0xE0, 0x90, 0x90, 0x90, 0xE0] ++ [0xF0, 0x80, 0xF0, 0x80, 0xF0] ++
  [0xF0, 0x80, 0xF0, 0x80, 0x80]

end Sys2Proof.Machine
end

