-- ==== Sys2Proof/Safety.lean ====
section
/-!
DEFINITION. The terms the statements use: the pieces of state and what it means that only some of them change (spec/00_scope.md
R14), the invariant of the machine, and the states a launched machine can reach.
-/

namespace Sys2Proof.Machine

/-- A piece of state, one for each row of the state list of spec/10_state.md; memory byte by byte, the file register by register. -/
inductive Component where
  | reg (r : Reg)
  | index
  | pc
  | stack
  | dt
  | st
  | byte (a : Nat)
  | fb
  | redraw
  | toneOn
  | keys
  | runState
  | faultCode
  | faultInfo
  | reports
  | draws
deriving DecidableEq, Repr

/-- The piece of state is the same in both states; a byte of memory is compared as it reads. -/
def Component.Same (c : Component) (s t : State) : Prop :=
  match c with
  | .reg r => t.reg r = s.reg r
  | .index => t.i = s.i
  | .pc => t.pc = s.pc
  | .stack => t.stack = s.stack
  | .dt => t.dt = s.dt
  | .st => t.st = s.st
  | .byte a => t.mem.read a = s.mem.read a
  | .fb => t.fb = s.fb
  | .redraw => t.redraw = s.redraw
  | .toneOn => t.toneOn = s.toneOn
  | .keys => t.keys = s.keys
  | .runState => t.runState = s.runState
  | .faultCode => t.faultCode = s.faultCode
  | .faultInfo => t.faultInfo = s.faultInfo
  | .reports => t.reports = s.reports
  | .draws => t.draws = s.draws

/-- The frame: every piece of state outside the list is the same in both states, all of memory among them. -/
def OnlyChanges (s t : State) (cs : List Component) : Prop :=
  ∀ c : Component, c ∉ cs → c.Same s t

/-- The fault record and the run state, all that a fault entry writes (R304). -/
def faultRecord : List Component := [.runState, .faultCode, .faultInfo]

/-- A fault entry with a code and an address: the fault is latched, nothing else changes (R304). -/
def FaultEntry (s t : State) (code : BitVec 2) (info : Nat) : Prop :=
  t.runState = .faulted ∧ t.faultCode = code ∧ t.faultInfo.toNat = info ∧ OnlyChanges s t faultRecord

/-- The state phase (c) of a tick starts from: each timer one less or still 0, then the tone set from `ST` (R320). -/
def afterTimers (s : State) : State :=
  { s with
    dt := BitVec.ofNat 8 (s.dt.toNat - 1)
    st := BitVec.ofNat 8 (s.st.toNat - 1)
    toneOn := decide (1 < s.st.toNat) }

/-- The word the next fetch reads, if there is one (R100). -/
def wordAtPc (s : State) : Word := joinBytes (s.mem.read s.pc.toNat) (s.mem.read (s.pc.toNat + 1))

/-- The fatal condition an instruction raises: the tables of R301, R302 and R303. -/
def faultOf (i : Instr) (s : State) : Option (BitVec 2 × Nat) :=
  match i with
  | .ret => if s.stack.length = 0 then some (2#2, 0) else none
  | .call _ => if s.stack.length = 16 then some (3#2, 0) else none
  | .drw _ _ n => if 0 < n.toNat ∧ 0xFFF < s.i.toNat + n.toNat - 1 then some (1#2, max s.i.toNat 0x1000) else none
  | .ldBVx _ => if 0xFFF < s.i.toNat + 2 then some (1#2, max s.i.toNat 0x1000) else none
  | .storeRegs x => if 0xFFF < s.i.toNat + x.val then some (1#2, max s.i.toNat 0x1000) else none
  | .loadRegs x => if 0xFFF < s.i.toNat + x.val then some (1#2, max s.i.toNat 0x1000) else none
  | .cls | .jp _ | .se _ _ | .sne _ _ | .seReg _ _ | .ld _ _ | .add _ _ | .ldReg _ _ | .or _ _ | .and _ _ | .xor _ _
  | .addReg _ _ | .sub _ _ | .shr _ _ | .subn _ _ | .shl _ _ | .sneReg _ _ | .ldI _ | .jpV0 _ | .rnd _ _ | .skp _ | .sknp _
  | .ldVxDt _ | .ldVxK _ | .ldDtVx _ | .ldStVx _ | .addIVx _ | .ldFVx _ => none

/-- The general registers an instruction reads: the first four rows of R22. -/
def registersRead (i : Instr) : List Reg :=
  match i with
  | .se x _ | .sne x _ | .add x _ | .shr x _ | .shl x _ | .skp x | .sknp x | .ldDtVx x | .ldStVx x | .addIVx x | .ldFVx x
  | .ldBVx x => [x]
  | .seReg x y | .or x y | .and x y | .xor x y | .addReg x y | .sub x y | .subn x y | .sneReg x y | .drw x y _ => [x, y]
  | .ldReg _ y => [y]
  | .jpV0 _ => [0]
  | .storeRegs x => regsUpTo x
  | .cls | .ret | .jp _ | .call _ | .ld _ _ | .ldI _ | .rnd _ _ | .ldVxDt _ | .ldVxK _ | .loadRegs _ => []

/-- The general registers an instruction writes: the next three rows of R22. -/
def registersWritten (i : Instr) : List Reg :=
  match i with
  | .ld x _ | .add x _ | .ldReg x _ | .or x _ | .and x _ | .xor x _ | .rnd x _ | .ldVxDt x | .ldVxK x => [x]
  | .addReg x _ | .sub x _ | .shr x _ | .subn x _ | .shl x _ => [x, VF]
  | .drw _ _ _ => [VF]
  | .loadRegs x => regsUpTo x
  | .cls | .ret | .jp _ | .call _ | .se _ _ | .sne _ _ | .seReg _ _ | .sneReg _ _ | .ldI _ | .jpV0 _ | .skp _ | .sknp _
  | .ldDtVx _ | .ldStVx _ | .addIVx _ | .ldFVx _ | .ldBVx _ | .storeRegs _ => []

/-- Whether the key named by a byte is pressed: a code above `0xF` is not (R257). -/
def Pressed (s : State) (b : Byte) : Prop := ∃ k : KeyCode, k.val = b.toNat ∧ s.keys.get k = true

/-- The cell is a target of the draw: the pixel of some sprite row and column that is 1, bit `7 - c` for column `c` (R231, R232, D22;
log 15). -/
def DrawsOn (s : State) (x0 y0 : Byte) (n : Nat) (cx : Fin 64) (cy : Fin 32) : Prop :=
  ∃ r c : Nat, r < n ∧ c < 8 ∧ (s.mem.read (s.i.toNat + r)).getLsbD (7 - c) = true ∧
    cx.val = (x0.toNat + c) % 64 ∧ cy.val = (y0.toNat + r) % 32

/-- What holds of every state of the machine. -/
structure State.Inv (s : State) : Prop where
  /-- Memory is in its canonical form, every cell at an address that exists (R60). -/
  memory : s.mem.wf = true
  /-- The stack holds at most `STACK_DEPTH` entries (R29). -/
  depth : s.stack.length ≤ 16
  /-- Every return address was the address of a fetched instruction (R140). -/
  returns : ∀ a ∈ s.stack, a.toNat ≤ 0xFFE
  /-- No instruction leaves more than `0x10FE` in `pc` (R27). -/
  pcRange : s.pc.toNat ≤ 0x10FE
  /-- A fault is recorded exactly in FAULTED (R37, R38). -/
  recorded : s.runState = .faulted ↔ s.faultCode ≠ 0#2
  /-- The recorded address does not exist (R38, R301). -/
  address : s.faultCode = 1#2 → 0x1000 ≤ s.faultInfo.toNat
  /-- The other codes record 0 (R38). -/
  noAddress : s.faultCode ≠ 1#2 → s.faultInfo = 0#16

/-- A safe state: no fatal condition has been latched (R304). -/
def State.Safe (s : State) : Prop := s.runState ≠ .faulted

/-- The states an image can lead to, under any history of ticks and host steps (R330, R367). -/
def Reachable (img : Image) (s : State) : Prop :=
  ∃ (s0 : State) (es : List Event), launch img = some s0 ∧ runEvents es s0 = .next s

end Sys2Proof.Machine
end

