-- ==== Sys2Proof/Certificates/Slice0/Obligations.lean ====
section
/-!
DEFINITION. The statements for the provers, each a reading of the spec's rules. Where a clause rests on a decision of the spec's
own (spec/92_eei_decisions.md) or on a choice of this model, its docstring names the decision and the entry of the assumption log.
-/

open Sys2Proof Sys2Proof.Machine

/-! ### Encoding -/

/-- Every instruction, with every operand at every value, is read back from its word and from its two bytes, whatever bytes
follow (spec/30_encoding.md sections 1 to 3). -/
def Obligations.DecodeOfEncodeIsTheInstruction : Prop :=
  ∀ (i : Instr) (rest : List Byte), decodeWord (encode i) = .instr i ∧
    decodeBytes (highByte (encode i) :: lowByte (encode i) :: rest) = .instr (i, rest)

/-- A word has one meaning: the instruction read from it encodes to that word, no bit is dropped (spec/30_encoding.md section 2). -/
def Obligations.EncodeOfDecodeIsTheWord : Prop :=
  ∀ (op : Word) (i : Instr), decodeWord op = .instr i → encode i = op

/-- The decoder is the opcode table: a word that a row accepts is the instruction of that row, every other word is rejected
(spec/30_encoding.md sections 3 and 4; strict decoding is decision D2, log 12). -/
def Obligations.DecodeFollowsTheOpcodeTable : Prop :=
  (∀ (op : Word) (row : OpcodeRow), row ∈ opcodeTable → op &&& row.mask = row.pattern →
    ∃ i, decodeWord op = .instr i ∧ mnemonicOf i = row.mnemonic) ∧
  (∀ op : Word, (∀ row ∈ opcodeTable, op &&& row.mask ≠ row.pattern) → ∃ why, decodeWord op = .rejected why)

/-- The rejected words are exactly those of the table of unrecognised words, by class (spec/30_encoding.md section 5; decisions
D1 and D2, log 12). -/
def Obligations.RejectedWordsAreTheUnrecognisedSet : Prop :=
  ∀ op : Word, (∃ why, decodeWord op = .rejected why) ↔
    (op.toNat / 0x1000 = 0x0 ∧ op ≠ 0x00E0#16 ∧ op ≠ 0x00EE#16) ∨
    (op.toNat / 0x1000 = 0x5 ∧ op.toNat % 0x10 ≠ 0) ∨
    (op.toNat / 0x1000 = 0x8 ∧ op.toNat % 0x10 ∈ [0x8, 0x9, 0xA, 0xB, 0xC, 0xD, 0xF]) ∨
    (op.toNat / 0x1000 = 0x9 ∧ op.toNat % 0x10 ≠ 0) ∨
    (op.toNat / 0x1000 = 0xE ∧ op.toNat % 0x100 ∉ [0x9E, 0xA1]) ∨
    (op.toNat / 0x1000 = 0xF ∧ op.toNat % 0x100 ∉ [0x07, 0x0A, 0x15, 0x18, 0x1E, 0x29, 0x33, 0x55, 0x65])

/-- The rows of the opcode table are pairwise disjoint (spec/30_encoding.md section 3). -/
def Obligations.OpcodeTableRowsAreDisjoint : Prop :=
  opcodeTable.Pairwise fun a b => a.pattern &&& (a.mask &&& b.mask) ≠ b.pattern &&& (a.mask &&& b.mask)

/-- Words written out bit by bit from the patterns of the table, one of each format, and `5121`, which is rejected
(spec/30_encoding.md sections 2 to 5; that `5121` is no SE is strict decoding, decision D2, log 12). -/
def Obligations.SampleWordsDecode : Prop :=
  decodeWord 0b0000000011101110#16 = .instr .ret ∧
  decodeWord 0b0010001000001010#16 = .instr (.call 0x20A#12) ∧
  decodeWord 0b0110101000000010#16 = .instr (.ld 10 0x02#8) ∧
  decodeWord 0b1000001101111110#16 = .instr (.shl 3 7) ∧
  decodeWord 0b1101010110100011#16 = .instr (.drw 5 10 0x3#4) ∧
  decodeWord 0b1110000110011110#16 = .instr (.skp 1) ∧
  decodeWord 0b1111001001010101#16 = .instr (.storeRegs 2) ∧
  decodeWord 0b0101000100100001#16 = .rejected .unrecognised5

/-! ### The tick -/

/-- A step of a running machine whose word at `pc` can be fetched and decodes to `i` is `exec i` on the state in which both
timers have counted down and the tone is set (spec/60_exceptions.md section 6, spec/30_encoding.md section 1). -/
def Obligations.StepRunsTheDecodedInstruction : Prop :=
  ∀ (s : State) (i : Instr), s.runState = .running → s.pc.toNat ≤ 0xFFE → decodeWord (wordAtPc s) = .instr i →
    step s = exec i (afterTimers s)

/-- A fetch with `pc > 0xFFE` latches `MemOutOfRange` of the first address that does not exist, after the timers and the tone
(spec/30_encoding.md section 1; decisions D15 and D16, log 1 and 18). -/
def Obligations.FetchOutOfRangeFaults : Prop :=
  ∀ s : State, s.runState = .running → 0xFFE < s.pc.toNat →
    ∃ t, step s = .next t ∧ FaultEntry (afterTimers s) t 1#2 (if s.pc.toNat = 0xFFF then 0x1000 else s.pc.toNat)

/-- An unrecognised word is reported with its address, `pc` advances by 2 and nothing else changes but the timers and the tone
(spec/60_exceptions.md section 3; decisions D3 and D30, log 11). -/
def Obligations.UnrecognisedWordIsReportedAndSkipped : Prop :=
  ∀ (s : State) (why : Reject), s.runState = .running → s.pc.toNat ≤ 0xFFE → decodeWord (wordAtPc s) = .rejected why →
    ∃ t, step s = .next t ∧ t.pc = s.pc + 2#16 ∧ t.reports = ⟨wordAtPc s, s.pc⟩ :: s.reports ∧
      OnlyChanges (afterTimers s) t [.pc, .reports]

/-- A tick outside RUNNING changes nothing (spec/60_exceptions.md section 6; decisions D15, D26 and D32, log 1, 10 and 23). -/
def Obligations.TickOutsideRunningChangesNothing : Prop :=
  ∀ s : State, s.runState = .faulted ∨ s.runState = .stopped → step s = .next s

/-- The machine never stops: every instruction in every state, and every step from every state, answers a next state (fatal
conditions are entries, decision D15, log 1). -/
def Obligations.EveryStepAnswersANextState : Prop :=
  (∀ (i : Instr) (s : State), ∃ t, exec i s = .next t) ∧ (∀ s : State, ∃ t, step s = .next t)

/-- In a tick of a running machine `DT` is one less, or still 0, unless the word executed is FX15, which replaces it with a
register; `ST` and FX18 alike (spec/60_exceptions.md section 6; that timers run in every RUNNING tick is decision D32, log 10). -/
def Obligations.TimersCountDownEveryTick : Prop :=
  ∀ s : State, s.runState = .running → ∃ t, step s = .next t ∧
    ((∀ x, decodeWord (wordAtPc s) ≠ .instr (.ldDtVx x)) ∨ 0xFFE < s.pc.toNat → t.dt.toNat = s.dt.toNat - 1) ∧
    ((∀ x, decodeWord (wordAtPc s) ≠ .instr (.ldStVx x)) ∨ 0xFFE < s.pc.toNat → t.st.toNat = s.st.toNat - 1) ∧
    (∀ x, decodeWord (wordAtPc s) = .instr (.ldDtVx x) → s.pc.toNat ≤ 0xFFE → t.dt = s.reg x) ∧
    (∀ x, decodeWord (wordAtPc s) = .instr (.ldStVx x) → s.pc.toNat ≤ 0xFFE → t.st = s.reg x)

/-- `tone_on` after any tick of a running machine is `ST > 0` with `ST` as the countdown leaves it, whatever the instruction,
FX18 too (spec/60_exceptions.md section 6; decision D19, log 22). -/
def Obligations.ToneFollowsTheDecrementedSoundTimer : Prop :=
  ∀ s : State, s.runState = .running → ∃ t, step s = .next t ∧ (t.toneOn = true ↔ 0 < s.st.toNat - 1)

/-- While FX0A waits, a tick counts the timers down, sets the tone from the counted-down `ST` and changes nothing else
(spec/44_keys_timers.md section 2, spec/60_exceptions.md section 6; decisions D6 and D32, log 10, and D19, log 22). -/
def Obligations.KeyWaitTickOnlyRunsTheTimers : Prop :=
  ∀ (s : State) (x : Reg), s.runState = .running → s.pc.toNat ≤ 0xFFE → decodeWord (wordAtPc s) = .instr (.ldVxK x) →
    (∀ k, s.keys.get k = false) →
    ∃ t, step s = .next t ∧ t.dt.toNat = s.dt.toNat - 1 ∧ t.st.toNat = s.st.toNat - 1 ∧
      (t.toneOn = true ↔ 0 < s.st.toNat - 1) ∧ OnlyChanges s t [.dt, .st, .toneOn]

/-! ### Fatal conditions -/

/-- Exactly the conditions of the fault tables raise, with their code and address, and an instruction that raises changes nothing
of its own; an instruction that does not raise leaves the run state and the fault record (spec/60_exceptions.md sections 1 and 2;
decisions D9, D14 and D15, log 1, 8 and 18). -/
def Obligations.InstructionsFaultExactlyAsTabled : Prop :=
  ∀ (i : Instr) (s : State), ∃ t, exec i s = .next t ∧
    (∀ code info, faultOf i s = some (code, info) → FaultEntry s t code info) ∧
    (faultOf i s = none → t.runState = s.runState ∧ t.faultCode = s.faultCode ∧ t.faultInfo = s.faultInfo)

/-- Out of RUNNING no number of ticks changes anything (spec/60_exceptions.md section 2; decision D15, log 1). -/
def Obligations.EndedMachineStaysForEveryTickCount : Prop :=
  ∀ (s : State) (n : Nat), s.runState ≠ .running → Host.Core.run Sys2Proof.core n s = .next s

/-- Of all events only `reset` leaves FAULTED or STOPPED (spec/60_exceptions.md sections 2 and 7; decisions D15 and D26, log 1 and 23). -/
def Obligations.OnlyResetLeavesAnEndedState : Prop :=
  ∀ (e : Event) (s : State), s.runState ≠ .running →
    ∃ t, e.apply s = .next t ∧ (e ≠ .host .reset → t.runState = s.runState) ∧ (e = .host .reset → t.runState = .running)

/-! ### Invariants -/

/-- The invariant holds right after reset (spec/10_state.md section 11). The reset values of `pc`, memory and the stack are the
source's; RUNNING with no fault recorded is decision D15 (log 1). The bounds of the invariant are decisions D9 (log 8) and D12
(log 19), the canonical form of memory is this model's (log 17). -/
def Obligations.InvariantHoldsAtReset : Prop := State.reset.Inv

/-- Every step from every state that meets the invariant gives a state that meets it: memory stays canonical within the 4096
bytes, the stack within 16 entries of fetchable addresses, `pc` at most `0x10FE`, the fault record consistent (spec/10_state.md
sections 4, 5 and 8; decisions D9, D12 and D15, log 1, 8 and 19; the canonical form of memory is this model's, log 17). -/
def Obligations.StepKeepsTheInvariant : Prop :=
  ∀ s : State, s.Inv → ∃ t, step s = .next t ∧ t.Inv

/-- Every state an image can lead to, under every history of ticks, keys, frames, stops and resets, meets the invariant
(spec/60_exceptions.md section 7, spec/70_reset_and_hazards.md section 1). Its depth, `pc` and fault-record clauses rest on decisions
D9, D12 and D15 (log 8, 19, 1), its canonical memory on log 17, the histories on D26 and D35 (log 23), the launch on D31 (log 24). -/
def Obligations.ReachableStatesMeetTheInvariant : Prop :=
  ∀ (img : Image) (s : State), Reachable img s → s.Inv

/-! ### Whole-machine rules -/

/-- Which instructions can change which state: general registers and `I`, `DT`, `ST`, the stack, `redraw`, `tone_on`, `run_state`
and the fault record (spec/10_state.md sections 1 and 9), memory (spec/20_memory.md sections 2 and 3), `fb` and `keys`
(spec/10_state.md section 7). An instruction that raises nothing leaves `run_state` and the fault record; what a raising one does to
them is InstructionsFaultExactlyAsTabled. That the effects are complete is decision D25 (log 20), that `tone_on` is written in phase
(b) only D19 (log 22), which conditions raise D9 and D14, and their record D15 (log 8, 18 and 1). The draw counter is the model's own
field (log 7), the reports are the trace of D30 (log 11). -/
def Obligations.OnlyTheTabledInstructionsChangeEachState : Prop :=
  ∀ (i : Instr) (s : State), ∃ t, exec i s = .next t ∧
    (∀ r, r ∉ registersWritten i → t.reg r = s.reg r) ∧
    (t.i ≠ s.i → (∃ nnn, i = .ldI nnn) ∨ (∃ x, i = .addIVx x) ∨ (∃ x, i = .ldFVx x)) ∧
    (t.dt ≠ s.dt → ∃ x, i = .ldDtVx x) ∧
    (t.st ≠ s.st → ∃ x, i = .ldStVx x) ∧
    (t.stack ≠ s.stack → i = .ret ∨ ∃ nnn, i = .call nnn) ∧
    (t.mem ≠ s.mem → (∃ x, i = .ldBVx x) ∨ ∃ x, i = .storeRegs x) ∧
    (t.fb ≠ s.fb ∨ t.redraw ≠ s.redraw → t.redraw = true ∧ (i = .cls ∨ ∃ x y n, i = .drw x y n)) ∧
    (t.draws ≠ s.draws → (∃ x nn, i = .rnd x nn) ∨ ∃ x, i = .ldVxK x) ∧
    (faultOf i s = none → t.runState = s.runState ∧ t.faultCode = s.faultCode ∧ t.faultInfo = s.faultInfo) ∧
    t.keys = s.keys ∧ t.toneOn = s.toneOn ∧ t.reports = s.reports

/-- An instruction depends on no general register but those it is said to read: two states that differ only in other registers
lead to states that differ only in registers the instruction left alone (the access table of spec/10_state.md section 1; that the
shifts ignore `Vy` is decision D25, log 20). -/
def Obligations.InstructionsReadOnlyTheTabledRegisters : Prop :=
  ∀ (i : Instr) (s : State) (v : Vector Byte 16),
    (∀ r ∈ registersRead i, ({ s with v := v } : State).reg r = s.reg r) →
    ∃ t w, exec i s = .next t ∧ exec i { s with v := v } = .next { t with v := w } ∧
      ∀ r, ({ t with v := w } : State).reg r = t.reg r ∨
        (t.reg r = s.reg r ∧ ({ t with v := w } : State).reg r = ({ s with v := v } : State).reg r)

/-- An instruction that is none of CXNN, EX9E, EXA1, FX0A does not depend on the keys or on any draw
(spec/70_reset_and_hazards.md section 3). -/
def Obligations.OtherInstructionsIgnoreKeysAndDraws : Prop :=
  ∀ (i : Instr) (s : State) (keys : Vector Bool 16) (draws : Nat),
    (∀ x nn, i ≠ .rnd x nn) → (∀ x, i ≠ .skp x) → (∀ x, i ≠ .sknp x) → (∀ x, i ≠ .ldVxK x) →
    ∃ t, exec i s = .next t ∧
      exec i { s with keys := keys, draws := draws } = .next { t with keys := keys, draws := draws }

/-- How each instruction and an unrecognised word leave `pc`; an instruction that raises leaves it unchanged (the table of
spec/10_state.md section 4; its rows for BNNN, FX0A, EX9E and EXA1, the unrecognised words and the fatal conditions rest on decisions
D12, D6, D8, D3 and D14, log 19, 10, 21, 11 and 18). -/
def Obligations.ProgramCounterAfterEachInstruction : Prop :=
  (∀ (i : Instr) (s : State), ∃ t, exec i s = .next t ∧
    (faultOf i s ≠ none → t.pc = s.pc) ∧
    (faultOf i s = none →
      match i with
      | .jp nnn | .call nnn => t.pc.toNat = nnn.toNat
      | .jpV0 nnn => t.pc.toNat = nnn.toNat + (s.reg 0).toNat
      | .ret => ∀ a rest, s.stack = a :: rest → t.pc = a + 2#16
      | .se x nn => t.pc = if s.reg x = nn then s.pc + 4#16 else s.pc + 2#16
      | .sne x nn => t.pc = if s.reg x ≠ nn then s.pc + 4#16 else s.pc + 2#16
      | .seReg x y => t.pc = if s.reg x = s.reg y then s.pc + 4#16 else s.pc + 2#16
      | .sneReg x y => t.pc = if s.reg x ≠ s.reg y then s.pc + 4#16 else s.pc + 2#16
      | .skp x => (Pressed s (s.reg x) → t.pc = s.pc + 4#16) ∧ (¬ Pressed s (s.reg x) → t.pc = s.pc + 2#16)
      | .sknp x => (¬ Pressed s (s.reg x) → t.pc = s.pc + 4#16) ∧ (Pressed s (s.reg x) → t.pc = s.pc + 2#16)
      | .ldVxK _ =>
        ((∃ k, s.keys.get k = true) → t.pc = s.pc + 2#16) ∧ ((∀ k, s.keys.get k = false) → t.pc = s.pc)
      | .cls | .ld _ _ | .add _ _ | .ldReg _ _ | .or _ _ | .and _ _ | .xor _ _ | .addReg _ _ | .sub _ _ | .shr _ _
      | .subn _ _ | .shl _ _ | .ldI _ | .rnd _ _ | .drw _ _ _ | .ldVxDt _ | .ldDtVx _ | .ldStVx _ | .addIVx _ | .ldFVx _
      | .ldBVx _ | .storeRegs _ | .loadRegs _ => t.pc = s.pc + 2#16)) ∧
  (∀ (s : State) (why : Reject), s.runState = .running → s.pc.toNat ≤ 0xFFE → decodeWord (wordAtPc s) = .rejected why →
    ∃ t, step s = .next t ∧ t.pc = s.pc + 2#16)

/-! ### Control flow -/

/-- R141. -/
def Obligations.JumpReplacesTheProgramCounter : Prop :=
  ∀ (nnn : BitVec 12) (s : State), encode (.jp nnn) &&& 0xF000#16 = 0x1000#16 ∧
    ∃ t, exec (.jp nnn) s = .next t ∧ t.pc.toNat = nnn.toNat ∧ OnlyChanges s t [.pc]

/-- JP V0: the sum of the address and `V[0]`, whatever its nibble `op[11:8]`, not masked (spec/40_control_flow.md section 2;
decision D12, log 19). -/
def Obligations.JumpPlusV0IsNotMasked : Prop :=
  ∀ (nnn : BitVec 12) (s : State), encode (.jpV0 nnn) &&& 0xF000#16 = 0xB000#16 ∧
    ∃ t, exec (.jpV0 nnn) s = .next t ∧ t.pc.toNat = nnn.toNat + (s.reg 0).toNat ∧ OnlyChanges s t [.pc]

/-- CALL pushes its own address and jumps; on a stack of 16 entries it latches `StackOverflow` (spec/40_control_flow.md section 2;
the bound is decision D9, log 8). -/
def Obligations.CallPushesItsOwnAddress : Prop :=
  ∀ (nnn : BitVec 12) (s : State), encode (.call nnn) &&& 0xF000#16 = 0x2000#16 ∧
    (s.stack.length ≠ 16 →
      ∃ t, exec (.call nnn) s = .next t ∧ t.stack = s.pc :: s.stack ∧ t.pc.toNat = nnn.toNat ∧ OnlyChanges s t [.stack, .pc]) ∧
    (s.stack.length = 16 → ∃ t, exec (.call nnn) s = .next t ∧ FaultEntry s t 3#2 0)

/-- RET pops and resumes 2 bytes after the popped address; on an empty stack it latches `StackUnderflow`, and the stack, `pc` and
everything else but the fault record are unchanged (spec/40_control_flow.md section 2; the latched form of the fatal condition,
code 2, is decision D15, log 1). -/
def Obligations.ReturnResumesAfterTheCall : Prop :=
  encode .ret = 0x00EE#16 ∧
  (∀ (s : State) (a : Word) (rest : List Word), s.stack = a :: rest →
    ∃ t, exec .ret s = .next t ∧ t.stack = rest ∧ t.pc.toNat = (a.toNat + 2) % 65536 ∧ OnlyChanges s t [.stack, .pc]) ∧
  (∀ s : State, s.stack = [] → ∃ t, exec .ret s = .next t ∧ FaultEntry s t 2#2 0)

/-- A RET executed, at any later time, on the stack that a CALL left restores the stack and resumes at `call_site + 2`
(spec/10_state.md section 4, spec/40_control_flow.md section 1). -/
def Obligations.CallThenReturnRestoresTheCaller : Prop :=
  ∀ (nnn : BitVec 12) (s : State), s.stack.length ≠ 16 →
    ∃ t, exec (.call nnn) s = .next t ∧
      ∀ u : State, u.stack = t.stack →
        ∃ w, exec .ret u = .next w ∧ w.pc = s.pc + 2#16 ∧ w.stack = s.stack ∧ OnlyChanges u w [.stack, .pc]

/-- R143, R144, R145, R146: the four comparing skips. -/
def Obligations.ComparingSkips : Prop :=
  (∀ (x : Reg) (nn : Byte) (s : State), encode (.se x nn) &&& 0xF000#16 = 0x3000#16 ∧
    ∃ t, exec (.se x nn) s = .next t ∧ (t.pc = if s.reg x = nn then s.pc + 4#16 else s.pc + 2#16) ∧ OnlyChanges s t [.pc]) ∧
  (∀ (x : Reg) (nn : Byte) (s : State), encode (.sne x nn) &&& 0xF000#16 = 0x4000#16 ∧
    ∃ t, exec (.sne x nn) s = .next t ∧ (t.pc = if s.reg x ≠ nn then s.pc + 4#16 else s.pc + 2#16) ∧ OnlyChanges s t [.pc]) ∧
  (∀ (x y : Reg) (s : State), encode (.seReg x y) &&& 0xF00F#16 = 0x5000#16 ∧
    ∃ t, exec (.seReg x y) s = .next t ∧ (t.pc = if s.reg x = s.reg y then s.pc + 4#16 else s.pc + 2#16) ∧
      OnlyChanges s t [.pc]) ∧
  (∀ (x y : Reg) (s : State), encode (.sneReg x y) &&& 0xF00F#16 = 0x9000#16 ∧
    ∃ t, exec (.sneReg x y) s = .next t ∧ (t.pc = if s.reg x ≠ s.reg y then s.pc + 4#16 else s.pc + 2#16) ∧
      OnlyChanges s t [.pc])

/-! ### Arithmetic and logic -/

/-- R170, R171, R172: the loads of a register and the addition without a flag. -/
def Obligations.RegisterLoadsAndAddImmediate : Prop :=
  (∀ (x : Reg) (nn : Byte) (s : State), encode (.ld x nn) &&& 0xF000#16 = 0x6000#16 ∧
    ∃ t, exec (.ld x nn) s = .next t ∧ t.reg x = nn ∧ t.pc = s.pc + 2#16 ∧ OnlyChanges s t [.reg x, .pc]) ∧
  (∀ (x : Reg) (nn : Byte) (s : State), encode (.add x nn) &&& 0xF000#16 = 0x7000#16 ∧
    ∃ t, exec (.add x nn) s = .next t ∧ (t.reg x).toNat = ((s.reg x).toNat + nn.toNat) % 256 ∧ t.pc = s.pc + 2#16 ∧
      OnlyChanges s t [.reg x, .pc]) ∧
  (∀ (x y : Reg) (s : State), encode (.ldReg x y) &&& 0xF00F#16 = 0x8000#16 ∧
    ∃ t, exec (.ldReg x y) s = .next t ∧ t.reg x = s.reg y ∧ t.pc = s.pc + 2#16 ∧ OnlyChanges s t [.reg x, .pc])

/-- OR, AND and XOR bit by bit; `VF` is not written unless it is the destination (spec/41_alu.md section 2; that the table's
effects are complete is decision D25, log 20). -/
def Obligations.LogicInstructionsLeaveTheFlag : Prop :=
  (∀ (x y : Reg) (s : State), encode (.or x y) &&& 0xF00F#16 = 0x8001#16 ∧
    ∃ t, exec (.or x y) s = .next t ∧ (∀ k, (t.reg x).getLsbD k = ((s.reg x).getLsbD k || (s.reg y).getLsbD k)) ∧
      t.pc = s.pc + 2#16 ∧ OnlyChanges s t [.reg x, .pc]) ∧
  (∀ (x y : Reg) (s : State), encode (.and x y) &&& 0xF00F#16 = 0x8002#16 ∧
    ∃ t, exec (.and x y) s = .next t ∧ (∀ k, (t.reg x).getLsbD k = ((s.reg x).getLsbD k && (s.reg y).getLsbD k)) ∧
      t.pc = s.pc + 2#16 ∧ OnlyChanges s t [.reg x, .pc]) ∧
  (∀ (x y : Reg) (s : State), encode (.xor x y) &&& 0xF00F#16 = 0x8003#16 ∧
    ∃ t, exec (.xor x y) s = .next t ∧ (∀ k, (t.reg x).getLsbD k = ((s.reg x).getLsbD k != (s.reg y).getLsbD k)) ∧
      t.pc = s.pc + 2#16 ∧ OnlyChanges s t [.reg x, .pc])

/-- ADD Vx, Vy: `VF` is the carry of the operands as they were, for every `x` and `y`; the sum stays unless `x` is `VF`
(spec/41_alu.md section 2; that the flag survives when `x` is `VF` is decision D20, log 13). -/
def Obligations.AddRegistersSetsTheCarry : Prop :=
  ∀ (x y : Reg) (s : State), encode (.addReg x y) &&& 0xF00F#16 = 0x8004#16 ∧
    ∃ t, exec (.addReg x y) s = .next t ∧
      (x ≠ VF → (t.reg x).toNat = ((s.reg x).toNat + (s.reg y).toNat) % 256) ∧
      (t.reg VF = if 255 < (s.reg x).toNat + (s.reg y).toNat then 1#8 else 0#8) ∧
      t.pc = s.pc + 2#16 ∧ OnlyChanges s t [.reg x, .reg VF, .pc]

/-- SUB and SUBN: the difference modulo 256; `VF` is 1 on `Vx >= Vy` for SUB and on `Vy > Vx`, strictly, for SUBN
(spec/41_alu.md section 2; decisions D20 and D33, log 13 and 14). -/
def Obligations.SubtractionsSetTheirFlags : Prop :=
  (∀ (x y : Reg) (s : State), encode (.sub x y) &&& 0xF00F#16 = 0x8005#16 ∧
    ∃ t, exec (.sub x y) s = .next t ∧
      (x ≠ VF → ((t.reg x).toNat : Int) = ((s.reg x).toNat - (s.reg y).toNat : Int) % 256) ∧
      (t.reg VF = if (s.reg y).toNat ≤ (s.reg x).toNat then 1#8 else 0#8) ∧
      t.pc = s.pc + 2#16 ∧ OnlyChanges s t [.reg x, .reg VF, .pc]) ∧
  (∀ (x y : Reg) (s : State), encode (.subn x y) &&& 0xF00F#16 = 0x8007#16 ∧
    ∃ t, exec (.subn x y) s = .next t ∧
      (x ≠ VF → ((t.reg x).toNat : Int) = ((s.reg y).toNat - (s.reg x).toNat : Int) % 256) ∧
      (t.reg VF = if (s.reg x).toNat < (s.reg y).toNat then 1#8 else 0#8) ∧
      t.pc = s.pc + 2#16 ∧ OnlyChanges s t [.reg x, .reg VF, .pc])

/-- SHR and SHL: `VF` is the bit shifted out and `Vx` the shifted value; with `x` = `VF` the flag is shifted in turn, which leaves
0 for SHR and 0 or 2 for SHL; `Vy` is never changed (spec/41_alu.md section 2; decisions D20 and D25, log 13 and 20). -/
def Obligations.ShiftsCaptureTheLostBit : Prop :=
  (∀ (x y : Reg) (s : State), encode (.shr x y) &&& 0xF00F#16 = 0x8006#16 ∧
    ∃ t, exec (.shr x y) s = .next t ∧
      (x ≠ VF → (t.reg x).toNat = (s.reg x).toNat / 2 ∧ (t.reg VF).toNat = (s.reg x).toNat % 2) ∧
      (x = VF → t.reg VF = 0#8) ∧
      t.pc = s.pc + 2#16 ∧ OnlyChanges s t [.reg x, .reg VF, .pc]) ∧
  (∀ (x y : Reg) (s : State), encode (.shl x y) &&& 0xF00F#16 = 0x800E#16 ∧
    ∃ t, exec (.shl x y) s = .next t ∧
      (x ≠ VF → (t.reg x).toNat = 2 * (s.reg x).toNat % 256 ∧ (t.reg VF).toNat = (s.reg x).toNat / 128) ∧
      (x = VF → t.reg VF = if 128 ≤ (s.reg VF).toNat then 2#8 else 0#8) ∧
      t.pc = s.pc + 2#16 ∧ OnlyChanges s t [.reg x, .reg VF, .pc])

/-- RND: the free byte of this draw under the mask `NN`, so a bit that is 0 in `NN` is 0 in the result, and the next draw is a
fresh one. It holds whatever the byte is (spec/41_alu.md section 2; decisions D4 and D5, log 5 and 9). -/
def Obligations.RandomByteIsMasked : Prop :=
  ∀ (x : Reg) (nn : Byte) (s : State), encode (.rnd x nn) &&& 0xF000#16 = 0xC000#16 ∧
    ∃ t, exec (.rnd x nn) s = .next t ∧
      t.reg x = Config.freeRand s.draws &&& nn ∧ (∀ k, nn.getLsbD k = false → (t.reg x).getLsbD k = false) ∧
      t.draws = s.draws + 1 ∧ t.pc = s.pc + 2#16 ∧ OnlyChanges s t [.reg x, .pc, .draws]

/-! ### Index register and memory -/

/-- R200. -/
def Obligations.LoadIndexImmediate : Prop :=
  ∀ (nnn : BitVec 12) (s : State), encode (.ldI nnn) &&& 0xF000#16 = 0xA000#16 ∧
    ∃ t, exec (.ldI nnn) s = .next t ∧ t.i.toNat = nnn.toNat ∧ t.pc = s.pc + 2#16 ∧ OnlyChanges s t [.index, .pc]

/-- ADD I, Vx wraps modulo 65536 and sets no flag; LD F, Vx applies its formula to the whole byte (spec/42_index_memory.md
section 2; decisions D10 and D29, log 20). -/
def Obligations.IndexArithmetic : Prop :=
  (∀ (x : Reg) (s : State), encode (.addIVx x) &&& 0xF0FF#16 = 0xF01E#16 ∧
    ∃ t, exec (.addIVx x) s = .next t ∧ t.i.toNat = (s.i.toNat + (s.reg x).toNat) % 65536 ∧ t.pc = s.pc + 2#16 ∧
      OnlyChanges s t [.index, .pc]) ∧
  (∀ (x : Reg) (s : State), encode (.ldFVx x) &&& 0xF0FF#16 = 0xF029#16 ∧
    ∃ t, exec (.ldFVx x) s = .next t ∧ t.i.toNat = 0x50 + 5 * (s.reg x).toNat ∧ t.pc = s.pc + 2#16 ∧
      OnlyChanges s t [.index, .pc])

/-- LD B, Vx stores the three decimal digits, hundreds at the lowest address, and no other byte; `I` stays. The premise that
memory is canonical holds of every state of the machine (StepKeepsTheInvariant). Out of range it raises and stores nothing
(spec/42_index_memory.md section 2; decision D14, log 18). -/
def Obligations.DecimalStoreWritesThreeDigits : Prop :=
  ∀ (x : Reg) (s : State), encode (.ldBVx x) &&& 0xF0FF#16 = 0xF033#16 ∧
    (s.mem.wf = true → s.i.toNat ≤ 0xFFD →
      ∃ t, exec (.ldBVx x) s = .next t ∧
        (t.mem.read s.i.toNat).toNat = (s.reg x).toNat / 100 ∧
        (t.mem.read (s.i.toNat + 1)).toNat = (s.reg x).toNat / 10 % 10 ∧
        (t.mem.read (s.i.toNat + 2)).toNat = (s.reg x).toNat % 10 ∧
        t.pc = s.pc + 2#16 ∧
        OnlyChanges s t [.pc, .byte s.i.toNat, .byte (s.i.toNat + 1), .byte (s.i.toNat + 2)]) ∧
    (0xFFD < s.i.toNat → ∃ t, exec (.ldBVx x) s = .next t ∧ FaultEntry s t 1#2 (max s.i.toNat 0x1000))

/-- LD [I], Vx stores `V[0]` … `V[X]`, inclusive, at `I` … `I+X`, and no other byte; `I` and every register stay. Out of range it
raises and stores nothing (spec/42_index_memory.md section 2; decisions D14 and D24, log 18 and 20). -/
def Obligations.BlockStoreWritesTheRegisters : Prop :=
  ∀ (x : Reg) (s : State), encode (.storeRegs x) &&& 0xF0FF#16 = 0xF055#16 ∧
    (s.mem.wf = true → s.i.toNat + x.val ≤ 0xFFF →
      ∃ t, exec (.storeRegs x) s = .next t ∧
        (∀ r : Reg, r.val ≤ x.val → t.mem.read (s.i.toNat + r.val) = s.reg r) ∧
        t.pc = s.pc + 2#16 ∧
        OnlyChanges s t (.pc :: (List.range (x.val + 1)).map fun k => .byte (s.i.toNat + k))) ∧
    (0xFFF < s.i.toNat + x.val → ∃ t, exec (.storeRegs x) s = .next t ∧ FaultEntry s t 1#2 (max s.i.toNat 0x1000))

/-- LD Vx, [I] loads `V[0]` … `V[X]`, inclusive, and no other register; `I` and memory stay. Out of range it raises and loads
nothing (spec/42_index_memory.md section 2; decisions D14 and D24, log 18 and 20). -/
def Obligations.BlockLoadReadsTheRegisters : Prop :=
  ∀ (x : Reg) (s : State), encode (.loadRegs x) &&& 0xF0FF#16 = 0xF065#16 ∧
    (s.i.toNat + x.val ≤ 0xFFF →
      ∃ t, exec (.loadRegs x) s = .next t ∧
        (∀ r : Reg, r.val ≤ x.val → t.reg r = s.mem.read (s.i.toNat + r.val)) ∧
        t.pc = s.pc + 2#16 ∧
        OnlyChanges s t (.pc :: (regsUpTo x).map .reg)) ∧
    (0xFFF < s.i.toNat + x.val → ∃ t, exec (.loadRegs x) s = .next t ∧ FaultEntry s t 1#2 (max s.i.toNat 0x1000))

/-- FX65 after FX55 with the same `X` and `I`, whatever has happened to the registers in between, restores the stored values
(spec/42_index_memory.md section 2, the last corner case of FX65). -/
def Obligations.BlockStoreThenLoadRestores : Prop :=
  ∀ (x : Reg) (s : State), s.mem.wf = true → s.i.toNat + x.val ≤ 0xFFF →
    ∃ t, exec (.storeRegs x) s = .next t ∧
      ∀ u : State, u.mem = t.mem → u.i = t.i →
        ∃ w, exec (.loadRegs x) u = .next w ∧ ∀ r : Reg, r.val ≤ x.val → w.reg r = s.reg r

/-- A store is seen by the very next fetch: when FX55 stores over the word that follows it, the next step executes the word the
registers `V0`, `V1` held (spec/20_memory.md section 4). -/
def Obligations.StoredWordIsFetchedByTheNextTick : Prop :=
  ∀ (x : Reg) (i : Instr) (s : State), s.mem.wf = true → s.runState = .running → 1 ≤ x.val → s.i.toNat + x.val ≤ 0xFFF →
    s.i = s.pc + 2#16 → decodeWord (joinBytes (s.reg 0) (s.reg 1)) = .instr i →
    ∃ t, exec (.storeRegs x) s = .next t ∧ step t = exec i (afterTimers t)

/-- An access above `0xFFF` raises that address, a read gives the byte, a write changes its own byte and no other
(spec/20_memory.md section 1). That memory is canonical, a premise that every state of the machine meets (StepKeepsTheInvariant), and
that a write keeps it so, is this model's own form of memory (log 17). -/
def Obligations.MemoryAccessIsCheckedAndLocal : Prop :=
  (∀ (m : Memory) (a : Nat), (0xFFF < a → memRead m a = .fatal (.memOutOfRange a)) ∧
    (a ≤ 0xFFF → memRead m a = .value (m.read a))) ∧
  (∀ (m : Memory) (a : Nat) (w : Byte), m.wf = true → (0xFFF < a → memWrite m a w = .fatal (.memOutOfRange a)) ∧
    (a ≤ 0xFFF → ∃ n, memWrite m a w = .value n ∧ n.wf = true ∧ n.read a = w ∧ ∀ b, b ≠ a → n.read b = m.read b))

/-! ### Display -/

/-- R230. -/
def Obligations.ClearScreenBlanksEveryCell : Prop :=
  encode .cls = 0x00E0#16 ∧
  ∀ s : State, ∃ t, exec .cls s = .next t ∧ (∀ x y, t.fb.cell x y = false) ∧ t.redraw = true ∧ t.pc = s.pc + 2#16 ∧
    OnlyChanges s t [.fb, .redraw, .pc]

/-- DRW: the pixel-by-pixel loop has the closed form of the rule. A cell is toggled exactly when a 1 bit of the sprite falls on
it, each pixel wrapped on its own; `VF` is 1 exactly when some toggled cell was set. It covers `N = 0`, and `X` or `Y` = `VF`,
whose value before the instruction is the coordinate. Out of range it latches code 1 and draws nothing (spec/43_display.md; decisions
D14, D15, D21 and D22, log 1, 15 and 18; the bit order of a sprite row, D22, is general knowledge, PRESUMED). -/
def Obligations.DrawTogglesExactlyTheSpriteCells : Prop :=
  ∀ (x y : Reg) (n : BitVec 4) (s : State), encode (.drw x y n) &&& 0xF000#16 = 0xD000#16 ∧
    (n.toNat = 0 ∨ s.i.toNat + n.toNat - 1 ≤ 0xFFF →
      ∃ t, exec (.drw x y n) s = .next t ∧
        (∀ cx cy, t.fb.cell cx cy = true ↔
          (s.fb.cell cx cy = true ↔ ¬ DrawsOn s (s.reg x) (s.reg y) n.toNat cx cy)) ∧
        ((∃ cx cy, DrawsOn s (s.reg x) (s.reg y) n.toNat cx cy ∧ s.fb.cell cx cy = true) → t.reg VF = 1#8) ∧
        ((¬ ∃ cx cy, DrawsOn s (s.reg x) (s.reg y) n.toNat cx cy ∧ s.fb.cell cx cy = true) → t.reg VF = 0#8) ∧
        t.redraw = true ∧ t.pc = s.pc + 2#16 ∧ OnlyChanges s t [.fb, .reg VF, .redraw, .pc]) ∧
    (0 < n.toNat → 0xFFF < s.i.toNat + n.toNat - 1 →
      ∃ t, exec (.drw x y n) s = .next t ∧ FaultEntry s t 1#2 (max s.i.toNat 0x1000))

/-- Drawing the same sprite twice at the same place restores the framebuffer, and the second draw sets `VF` exactly when some
cell is set after the first draw under a 1 bit of the sprite; onto blank target cells that is whenever the sprite has a 1 bit.
`VF` is neither coordinate, so that the second draw is at the same place (spec/43_display.md section 2, the properties the source
requires). Which cells lie under the sprite's 1 bits rests on its bit order, PRESUMED (decision D22, log 15). -/
def Obligations.DrawingTwiceRestoresTheScreen : Prop :=
  ∀ (x y : Reg) (n : BitVec 4) (s : State), x ≠ VF → y ≠ VF → (n.toNat = 0 ∨ s.i.toNat + n.toNat - 1 ≤ 0xFFF) →
    ∃ t u, exec (.drw x y n) s = .next t ∧ exec (.drw x y n) t = .next u ∧ u.fb = s.fb ∧
      (u.reg VF = 1#8 ↔ ∃ cx cy, DrawsOn s (s.reg x) (s.reg y) n.toNat cx cy ∧ t.fb.cell cx cy = true) ∧
      ((∀ cx cy, DrawsOn s (s.reg x) (s.reg y) n.toNat cx cy → s.fb.cell cx cy = false) →
        (u.reg VF = 1#8 ↔ ∃ cx cy, DrawsOn s (s.reg x) (s.reg y) n.toNat cx cy))

/-! ### Keys and timers -/

/-- SKP skips exactly when the key named by the whole byte of `Vx` is pressed, SKNP exactly when it is not; a code above `0xF`
is not pressed (spec/44_keys_timers.md section 2; decision D8, log 21). -/
def Obligations.KeySkipsAreOpposite : Prop :=
  ∀ (x : Reg) (s : State),
    encode (.skp x) &&& 0xF0FF#16 = 0xE09E#16 ∧ encode (.sknp x) &&& 0xF0FF#16 = 0xE0A1#16 ∧
    (∃ t, exec (.skp x) s = .next t ∧ (Pressed s (s.reg x) → t.pc = s.pc + 4#16) ∧
      (¬ Pressed s (s.reg x) → t.pc = s.pc + 2#16) ∧ OnlyChanges s t [.pc]) ∧
    (∃ t, exec (.sknp x) s = .next t ∧ (Pressed s (s.reg x) → t.pc = s.pc + 2#16) ∧
      (¬ Pressed s (s.reg x) → t.pc = s.pc + 4#16) ∧ OnlyChanges s t [.pc])

/-- LD Vx, K: with no key pressed nothing changes, `pc` too; with keys pressed the code of one of them is stored and `pc`
advances (spec/44_keys_timers.md section 2; decisions D6, D7 and D34, log 6 and 10). -/
def Obligations.KeyWaitStoresAPressedKey : Prop :=
  ∀ (x : Reg) (s : State), encode (.ldVxK x) &&& 0xF0FF#16 = 0xF00A#16 ∧
    ((∀ k, s.keys.get k = false) → exec (.ldVxK x) s = .next s) ∧
    ((∃ k, s.keys.get k = true) →
      ∃ t k, exec (.ldVxK x) s = .next t ∧ s.keys.get k = true ∧ (t.reg x).toNat = k.val ∧ t.draws = s.draws + 1 ∧
        t.pc = s.pc + 2#16 ∧ OnlyChanges s t [.reg x, .pc, .draws])

/-- `KEY_SELECT` is open: under every configuration a pressed key is chosen, and every pressed key is the choice of some
configuration (spec/44_keys_timers.md section 2; decision D7, log 6). -/
def Obligations.KeyChoiceIsOpenAmongThePressed : Prop :=
  ∀ (x : Reg) (s : State) (k : KeyCode), s.keys.get k = true →
    (∀ c : Config, ∃ l : KeyCode, s.keys.get l = true ∧ (waitKey c x s).reg x = keyByte l) ∧
    (∃ c : Config, (waitKey c x s).reg x = keyByte k)

/-- R253, R254: FX07 reads `DT` as this tick's countdown left it; a value FX15 writes is first decremented in the next tick. -/
def Obligations.DelayTimerTransfers : Prop :=
  (∀ (x : Reg) (s : State), encode (.ldVxDt x) &&& 0xF0FF#16 = 0xF007#16 ∧
    (∃ t, exec (.ldVxDt x) s = .next t ∧ t.reg x = s.dt ∧ t.pc = s.pc + 2#16 ∧ OnlyChanges s t [.reg x, .pc]) ∧
    (s.runState = .running → s.pc.toNat ≤ 0xFFE → decodeWord (wordAtPc s) = .instr (.ldVxDt x) →
      ∃ t, step s = .next t ∧ (t.reg x).toNat = s.dt.toNat - 1)) ∧
  (∀ (x : Reg) (s : State), encode (.ldDtVx x) &&& 0xF0FF#16 = 0xF015#16 ∧
    (∃ t, exec (.ldDtVx x) s = .next t ∧ t.dt = s.reg x ∧ t.pc = s.pc + 2#16 ∧ OnlyChanges s t [.dt, .pc]) ∧
    (s.runState = .running → s.pc.toNat ≤ 0xFFE → decodeWord (wordAtPc s) = .instr (.ldDtVx x) →
      ∃ t u, step s = .next t ∧ t.dt = s.reg x ∧ step t = .next u ∧
        ((∀ y, decodeWord (wordAtPc t) ≠ .instr (.ldDtVx y)) → u.dt.toNat = (s.reg x).toNat - 1)))

/-- LD ST, Vx writes `ST` and not the tone; the tone follows in the next tick, after its countdown, so a value of 0 or 1 never
sounds (spec/44_keys_timers.md section 3; decision D19, log 22). -/
def Obligations.SoundTimerSoundsOneTickLater : Prop :=
  ∀ (x : Reg) (s : State), encode (.ldStVx x) &&& 0xF0FF#16 = 0xF018#16 ∧
    ∃ t, exec (.ldStVx x) s = .next t ∧ t.st = s.reg x ∧ t.pc = s.pc + 2#16 ∧ OnlyChanges s t [.st, .pc] ∧
      (s.runState = .running → ∃ u, step t = .next u ∧ (u.toneOn = true ↔ 2 ≤ (s.reg x).toNat))

/-! ### Reset, launch and the host -/

/-- What reset leaves: `pc`, memory and the stack as the source states them; the registers, the timers, the framebuffer and the
flags 0 by decisions D17 and D18 (log 2 and 3), RUNNING with no fault recorded (D15, log 1). The host's `reset` gives them from
any state and keeps the keys (log 4) and the draw counter, the model's own field (log 7). -/
def Obligations.ResetStateIsAsTabled : Prop :=
  (State.reset.pc = 0x200#16 ∧ (∀ a, State.reset.mem.read a = 0#8) ∧ State.reset.stack = []) ∧
  ((∀ r, State.reset.reg r = 0#8) ∧ State.reset.i = 0#16 ∧ State.reset.dt = 0#8 ∧ State.reset.st = 0#8 ∧
    (∀ x y, State.reset.fb.cell x y = false) ∧ State.reset.redraw = false ∧ State.reset.toneOn = false ∧
    State.reset.runState = .running ∧ State.reset.faultCode = 0#2 ∧ State.reset.faultInfo = 0#16) ∧
  (∀ s : State, (HostAction.reset.apply s).keys = s.keys ∧ (HostAction.reset.apply s).draws = s.draws ∧
    OnlyChanges State.reset (HostAction.reset.apply s) [.keys, .draws])

/-- R352: the launch state is the reset state with the font at `0x050` and the program at `0x200`, every other byte 0. -/
def Obligations.LaunchFillsTheFontAndTheProgram : Prop :=
  ∀ img : Image, img.font.length = 80 → img.program.length ≤ 3584 →
    ∃ s, launch img = some s ∧
      (∀ j, j < 80 → s.mem.read (0x050 + j) = img.font.getD j 0#8) ∧
      (∀ j, j < img.program.length → s.mem.read (0x200 + j) = img.program.getD j 0#8) ∧
      (∀ a, ¬ (0x050 ≤ a ∧ a < 0x0A0) → ¬ (0x200 ≤ a ∧ a < 0x200 + img.program.length) → s.mem.read a = 0#8) ∧
      s.pc = 0x200#16 ∧ ∃ m, s = { State.reset with mem := m }

/-- Images of 0 to 3584 bytes have a launch state, longer ones have none, nor has a font that is not 80 bytes
(spec/70_reset_and_hazards.md section 1; decision D31, log 24). -/
def Obligations.OnlyImagesThatFitCanBeLaunched : Prop :=
  ∀ img : Image, (∃ s, launch img = some s) ↔ img.font.length = 80 ∧ img.program.length ≤ 3584

/-- What the host may do between ticks: set one key, clear `redraw`, stop a RUNNING machine; nothing else changes
(spec/60_exceptions.md section 7; decisions D26, D27 and D35, log 23). -/
def Obligations.HostActionsChangeOnlyTheirOwnState : Prop :=
  (∀ (s : State) (k : KeyCode) (b : Bool), ((HostAction.setKey k b).apply s).keys.get k = b ∧
    (∀ l, l ≠ k → ((HostAction.setKey k b).apply s).keys.get l = s.keys.get l) ∧
    OnlyChanges s ((HostAction.setKey k b).apply s) [.keys]) ∧
  (∀ s : State, (HostAction.presentFrame.apply s).redraw = false ∧ OnlyChanges s (HostAction.presentFrame.apply s) [.redraw]) ∧
  (∀ s : State, (s.runState = .running → (HostAction.stop.apply s).runState = .stopped) ∧
    (s.runState ≠ .running → (HostAction.stop.apply s).runState = s.runState) ∧
    OnlyChanges s (HostAction.stop.apply s) [.runState])

/-- The other values of the parameters: an unmasked random byte (D4, log 9), an FX0A that does not block (D6, log 10), an
unrecognised word that is reported and does not advance (D3, log 11), an unbounded stack (D9, log 8), a lenient decoder's refusal,
which is this model's own choice (D2, log 12) (spec/00_scope.md section 4). No step of the hardware takes them. -/
def Obligations.ParametersTakeTheirOtherValues : Prop :=
  (∀ (c : Config) (x : Reg) (nn : Byte) (s : State), c.rndMasked = false → (randomTo c x nn s).reg x = c.rand s.draws) ∧
  (∀ (c : Config) (x : Reg) (s : State), c.keywaitBlocks = false → (∀ k, s.keys.get k = false) →
    (waitKey c x s).pc = s.pc + 2#16 ∧ OnlyChanges s (waitKey c x s) [.pc]) ∧
  (∀ (c : Config) (op : Word) (s : State), c.unrecognizedAdvances = false →
    (unrecognised c op s).reports = ⟨op, s.pc⟩ :: s.reports ∧ OnlyChanges s (unrecognised c op s) [.reports]) ∧
  (∀ (c : Config) (a : Word) (s : State), c.stackDepth = none →
    (callTo c a s).stack = s.pc :: s.stack ∧ (callTo c a s).runState = s.runState) ∧
  (∀ (c : Config) (op : Word) (s : State), c.strictDecode = false → decodeAmbiguous op = true →
    rejectWord c op s = .refused (.decodeAmbiguous op))
end

