-- ==== Sys2Proof/Laws/Encoding.lean ====
section
/-!
SUPPORT. The fields of the three formats: each is read back as it was written (spec/30_encoding.md R102, R103).
-/

namespace Sys2Proof

/-! ### Format `NNN` -/

@[simp] theorem fieldClass_formatNNN (c : BitVec 4) (a : BitVec 12) : fieldClass (formatNNN c a) = c :=
  BitVec.extractLsb'_append_eq_left

@[simp] theorem fieldNNN_formatNNN (c : BitVec 4) (a : BitVec 12) : fieldNNN (formatNNN c a) = a :=
  BitVec.extractLsb'_append_eq_right

/-! ### Formats `XNN` and `X` -/

@[simp] theorem fieldClass_formatXNN (c : BitVec 4) (x : Reg) (nn : Byte) : fieldClass (formatXNN c x nn) = c :=
  (BitVec.extractLsb'_append_eq_of_le (xhi := c ++ (BitVec.ofFin x : BitVec 4)) (xlo := nn) (by decide)).trans
    BitVec.extractLsb'_append_eq_left

@[simp] theorem fieldX_formatXNN (c : BitVec 4) (x : Reg) (nn : Byte) : fieldX (formatXNN c x nn) = x :=
  congrArg BitVec.toFin
    ((BitVec.extractLsb'_append_eq_of_le (xhi := c ++ (BitVec.ofFin x : BitVec 4)) (xlo := nn) (by decide)).trans
      BitVec.extractLsb'_append_eq_right)

@[simp] theorem fieldNN_formatXNN (c : BitVec 4) (x : Reg) (nn : Byte) : fieldNN (formatXNN c x nn) = nn :=
  BitVec.extractLsb'_append_eq_right (a := c ++ (BitVec.ofFin x : BitVec 4))

/-! ### Formats `XY` and `XYN` -/

/-- The format as its upper byte and its lower byte. -/
theorem formatXYN_eq_formatXNN (c : BitVec 4) (x y : Reg) (n : BitVec 4) :
    formatXYN c x y n = formatXNN c x ((BitVec.ofFin y : BitVec 4) ++ n) :=
  BitVec.append_assoc (x₁ := c ++ (BitVec.ofFin x : BitVec 4)) (x₂ := (BitVec.ofFin y : BitVec 4)) (x₃ := n)

@[simp] theorem fieldClass_formatXYN (c : BitVec 4) (x y : Reg) (n : BitVec 4) :
    fieldClass (formatXYN c x y n) = c := by
  rw [formatXYN_eq_formatXNN, fieldClass_formatXNN]

@[simp] theorem fieldX_formatXYN (c : BitVec 4) (x y : Reg) (n : BitVec 4) : fieldX (formatXYN c x y n) = x := by
  rw [formatXYN_eq_formatXNN, fieldX_formatXNN]

@[simp] theorem fieldY_formatXYN (c : BitVec 4) (x y : Reg) (n : BitVec 4) : fieldY (formatXYN c x y n) = y :=
  congrArg BitVec.toFin
    ((BitVec.extractLsb'_append_eq_of_le (xhi := c ++ (BitVec.ofFin x : BitVec 4) ++ (BitVec.ofFin y : BitVec 4)) (xlo := n)
      (by decide)).trans BitVec.extractLsb'_append_eq_right)

@[simp] theorem fieldN_formatXYN (c : BitVec 4) (x y : Reg) (n : BitVec 4) : fieldN (formatXYN c x y n) = n :=
  BitVec.extractLsb'_append_eq_right (a := c ++ (BitVec.ofFin x : BitVec 4) ++ (BitVec.ofFin y : BitVec 4))

/-! ### A word from its fields -/

/-- A bit vector with a known value is that literal. -/
theorem eq_ofNat_of_toNat_eq {w k : Nat} {b : BitVec w} (h : b.toNat = k) : b = BitVec.ofNat w k := by
  subst h
  simp

theorem formatNNN_fields (op : Word) : formatNNN (fieldClass op) (fieldNNN op) = op := by
  unfold formatNNN fieldClass fieldNNN
  rw [BitVec.extractLsb'_append_extractLsb'_eq_extractLsb' (by rfl)]
  simp

theorem formatXNN_fields (op : Word) : formatXNN (fieldClass op) (fieldX op) (fieldNN op) = op := by
  unfold formatXNN fieldClass fieldX fieldNN
  show op.extractLsb' 12 4 ++ op.extractLsb' 8 4 ++ op.extractLsb' 0 8 = op
  rw [BitVec.extractLsb'_append_extractLsb'_eq_extractLsb' (by rfl), BitVec.extractLsb'_append_extractLsb'_eq_extractLsb' (by rfl)]
  simp

theorem formatXYN_fields (op : Word) : formatXYN (fieldClass op) (fieldX op) (fieldY op) (fieldN op) = op := by
  unfold formatXYN fieldClass fieldX fieldY fieldN
  show op.extractLsb' 12 4 ++ op.extractLsb' 8 4 ++ op.extractLsb' 4 4 ++ op.extractLsb' 0 4 = op
  rw [BitVec.extractLsb'_append_extractLsb'_eq_extractLsb' (by rfl), BitVec.extractLsb'_append_extractLsb'_eq_extractLsb' (by rfl),
    BitVec.extractLsb'_append_extractLsb'_eq_extractLsb' (by rfl)]
  simp

/-! ### Bytes of a word -/

theorem joinBytes_highByte_lowByte (op : Word) : joinBytes (highByte op) (lowByte op) = op := by
  unfold joinBytes highByte lowByte
  ext i hi
  simp only [BitVec.getElem_append, BitVec.getElem_extractLsb']
  split
  · simp [BitVec.getLsbD_eq_getElem hi]
  · simp [show 8 + (i - 8) = i by omega, BitVec.getLsbD_eq_getElem hi]

@[simp] theorem highByte_joinBytes (hi lo : Byte) : highByte (joinBytes hi lo) = hi :=
  BitVec.extractLsb'_append_eq_left

@[simp] theorem lowByte_joinBytes (hi lo : Byte) : lowByte (joinBytes hi lo) = lo :=
  BitVec.extractLsb'_append_eq_right

/-! ### Masks -/

/-- A nibble under the mask `F`. -/
theorem nibble_and_F (c : BitVec 4) : c &&& 0xF#4 = c := BitVec.and_allOnes

/-- A byte under the mask `F0`. -/
theorem byte_and_F0 (c d : BitVec 4) : (c ++ d) &&& (0xF#4 ++ 0x0#4) = c ++ 0x0#4 := by
  rw [BitVec.and_append, nibble_and_F, BitVec.and_zero]

theorem formatNNN_and_mask (c : BitVec 4) (a : BitVec 12) : formatNNN c a &&& 0xF000#16 = formatNNN c 0#12 :=
  (BitVec.and_append (x₁ := c) (x₂ := 0xF#4) (y₁ := a) (y₂ := 0#12)).trans (by rw [nibble_and_F, BitVec.and_zero]; rfl)

theorem formatXNN_and_class (c : BitVec 4) (x : Reg) (nn : Byte) :
    formatXNN c x nn &&& 0xF000#16 = formatXNN c 0 0#8 :=
  (BitVec.and_append (x₁ := c ++ (BitVec.ofFin x : BitVec 4)) (x₂ := 0xF#4 ++ 0x0#4) (y₁ := nn) (y₂ := 0x00#8)).trans
    (by rw [byte_and_F0, BitVec.and_zero]; rfl)

theorem formatXNN_and_low (c : BitVec 4) (x : Reg) (nn : Byte) :
    formatXNN c x nn &&& 0xF0FF#16 = formatXNN c 0 nn :=
  (BitVec.and_append (x₁ := c ++ (BitVec.ofFin x : BitVec 4)) (x₂ := 0xF#4 ++ 0x0#4) (y₁ := nn) (y₂ := 0xFF#8)).trans
    (by rw [byte_and_F0, show (0xFF#8 : BitVec 8) = BitVec.allOnes 8 from rfl, BitVec.and_allOnes]; rfl)

theorem formatXYN_and_class (c : BitVec 4) (x y : Reg) (n : BitVec 4) :
    formatXYN c x y n &&& 0xF000#16 = formatXNN c 0 0#8 := by
  rw [formatXYN_eq_formatXNN, formatXNN_and_class]

theorem formatXYN_and_nibble (c : BitVec 4) (x y : Reg) (n : BitVec 4) :
    formatXYN c x y n &&& 0xF00F#16 = formatXYN c 0 0 n :=
  (BitVec.and_append (x₁ := c ++ (BitVec.ofFin x : BitVec 4) ++ (BitVec.ofFin y : BitVec 4))
    (x₂ := 0xF#4 ++ 0x0#4 ++ 0x0#4) (y₁ := n) (y₂ := 0xF#4)).trans
    (by rw [BitVec.and_append, byte_and_F0, nibble_and_F, BitVec.and_zero]; rfl)

end Sys2Proof
end

