-- ==== Sys2Proof/Laws/Framebuffer.lean ====
section
/-!
SUPPORT. The framebuffer's cells (spec/10_state.md R33) and one XOR of a draw (spec/43_display.md R232).
-/

namespace Sys2Proof.Machine

namespace Framebuffer

/-- A cell reads the value last written to it, and a write leaves the others alone. -/
theorem cell_setCell (f : Framebuffer) (x : Fin 64) (y : Fin 32) (b : Bool) (x' : Fin 64) (y' : Fin 32) :
    (f.setCell x y b).cell x' y' = if x' = x ∧ y' = y then b else f.cell x' y' := by
  simp only [cell, setCell, Vector.get_eq_getElem, Vector.getElem_set, Fin.ext_iff]
  by_cases hx : x'.val = x.val
  · by_cases hy : y'.val = y.val
    · simp [hx, hy]
    · simp [hx, hy, Ne.symm hy]
  · simp [hx, Ne.symm hx]

/-- Two framebuffers with the same cells are the same. -/
theorem ext_cell {f g : Framebuffer} (h : ∀ x y, f.cell x y = g.cell x y) : f = g := by
  apply Vector.ext
  intro x hx
  apply Vector.ext
  intro y hy
  exact h ⟨x, hx⟩ ⟨y, hy⟩

@[simp] theorem cell_blank (x : Fin 64) (y : Fin 32) : blank.cell x y = false := by
  simp [cell, blank, Vector.get_eq_getElem]

end Framebuffer

/-- One XOR toggles its cell and no other. -/
theorem Canvas.cell_toggle (k : Canvas) (x : Fin 64) (y : Fin 32) (x' : Fin 64) (y' : Fin 32) :
    (k.toggle x y).fb.cell x' y' = if x' = x ∧ y' = y then !(k.fb.cell x y) else k.fb.cell x' y' :=
  k.fb.cell_setCell x y _ x' y'

/-- One XOR is a collision when its cell was set, and a collision stays. -/
theorem Canvas.hit_toggle (k : Canvas) (x : Fin 64) (y : Fin 32) : (k.toggle x y).hit = (k.hit || k.fb.cell x y) := rfl

end Sys2Proof.Machine
end

