-- ==== Sys2Proof/Laws/Memory.lean ====
section
/-!
SUPPORT. The laws of memory (spec/20_memory.md R61, R62): read after write, and that every operation keeps the canonical form.
-/

namespace Sys2Proof.Machine.Memory

/-! ### The canonical form -/

theorem wfFrom_cons {lo a : Nat} {w : Byte} {m : Memory} :
    wfFrom lo ((a, w) :: m) = true ↔ lo ≤ a ∧ a ≤ lastAddress ∧ w ≠ 0#8 ∧ wfFrom (a + 1) m = true := by
  simp [wfFrom, and_assoc]

theorem wfFrom_mono {lo lo' : Nat} {m : Memory} (h : wfFrom lo m = true) (hl : lo' ≤ lo) : wfFrom lo' m = true := by
  cases m with
  | nil => rfl
  | cons c m =>
    rw [wfFrom_cons] at h ⊢
    exact ⟨by omega, h.2⟩

/-- Below its first address a list reads as unlisted. -/
theorem read_of_lt {lo a : Nat} {m : Memory} (h : wfFrom lo m = true) (ha : a < lo) : m.read a = 0#8 := by
  induction m generalizing lo with
  | nil => rfl
  | cons c m ih =>
    obtain ⟨b, w⟩ := c
    rw [wfFrom_cons] at h
    have hne : a ≠ b := by omega
    simp only [read, hne, if_false]
    exact ih h.2.2.2 (by omega)

/-- Above the last address that exists a list reads as unlisted. -/
theorem read_of_gt {lo a : Nat} {m : Memory} (h : wfFrom lo m = true) (ha : lastAddress < a) : m.read a = 0#8 := by
  induction m generalizing lo with
  | nil => rfl
  | cons c m ih =>
    obtain ⟨b, w⟩ := c
    rw [wfFrom_cons] at h
    have hne : a ≠ b := by omega
    simp only [read, hne, if_false]
    exact ih h.2.2.2

/-! ### Cells -/

theorem cell_wfFrom {lo a : Nat} {w : Byte} {m : Memory} (h : wfFrom (a + 1) m = true) (hl : lo ≤ a) (ha : a ≤ lastAddress) :
    wfFrom lo (cell a w m) = true := by
  unfold cell
  split
  · exact wfFrom_mono h (by omega)
  · rename_i hw
    exact wfFrom_cons.2 ⟨hl, ha, hw, h⟩

theorem read_cell {a : Nat} {w : Byte} {m : Memory} (h : wfFrom (a + 1) m = true) (b : Nat) :
    (cell a w m).read b = if b = a then w else m.read b := by
  unfold cell
  split
  · rename_i hw
    split
    · rename_i hb
      rw [hb, read_of_lt h (by omega), hw]
    · rfl
  · rfl

/-! ### Writes -/

theorem write_wfFrom {lo a : Nat} {m : Memory} (w : Byte) (h : wfFrom lo m = true) (hl : lo ≤ a) (ha : a ≤ lastAddress) :
    wfFrom lo (m.write a w) = true := by
  induction m generalizing lo with
  | nil => exact cell_wfFrom rfl hl ha
  | cons c m ih =>
    obtain ⟨b, u⟩ := c
    have hc := wfFrom_cons.1 h
    simp only [write]
    split
    · exact cell_wfFrom (wfFrom_cons.2 ⟨by omega, hc.2⟩) hl ha
    · split
      · rename_i _ hab
        exact cell_wfFrom (hab ▸ hc.2.2.2) hl ha
      · exact wfFrom_cons.2 ⟨hc.1, hc.2.1, hc.2.2.1, ih hc.2.2.2 (by omega)⟩

/-- A write to an address that exists keeps the canonical form. -/
theorem write_wf {m : Memory} {a : Nat} (w : Byte) (h : m.wf = true) (ha : a ≤ lastAddress) : (m.write a w).wf = true :=
  write_wfFrom w h (Nat.zero_le a) ha

theorem read_write_from {lo a : Nat} {m : Memory} (w : Byte) (h : wfFrom lo m = true) (b : Nat) :
    (m.write a w).read b = if b = a then w else m.read b := by
  induction m generalizing lo with
  | nil => exact read_cell rfl b
  | cons c m ih =>
    obtain ⟨d, u⟩ := c
    have hc := wfFrom_cons.1 h
    simp only [write]
    split
    · exact read_cell (wfFrom_cons.2 ⟨by omega, hc.2⟩) b
    · split
      · rename_i _ had
        subst had
        rw [read_cell hc.2.2.2]
        by_cases hb : b = a <;> simp [read, hb]
      · rename_i _ had
        simp only [read, ih hc.2.2.2]
        by_cases hd : b = d
        · have hne : b ≠ a := by omega
          simp [hd, show d ≠ a by omega]
        · simp [hd]

/-- Read after write: the byte written, and every other byte as before (R61, R62). -/
theorem read_write {m : Memory} (h : m.wf = true) (a : Nat) (w : Byte) (b : Nat) :
    (m.write a w).read b = if b = a then w else m.read b :=
  read_write_from w h b

/-! ### Writes of several bytes -/

/-- Bytes stored at addresses that exist keep the canonical form. -/
theorem writeBytes_wf {m : Memory} (h : m.wf = true) (a : Nat) (ws : List Byte) (hr : a + ws.length ≤ lastAddress + 1) :
    (m.writeBytes a ws).wf = true := by
  induction ws generalizing m a with
  | nil => exact h
  | cons w ws ih =>
    simp only [List.length_cons] at hr
    exact ih (write_wf w h (by omega)) (a + 1) (by omega)

/-- Each stored byte reads back, every byte outside the stored range reads as before. -/
theorem read_writeBytes {m : Memory} (h : m.wf = true) (a : Nat) (ws : List Byte) (hr : a + ws.length ≤ lastAddress + 1)
    (b : Nat) :
    (m.writeBytes a ws).read b = if a ≤ b ∧ b < a + ws.length then ws.getD (b - a) 0#8 else m.read b := by
  induction ws generalizing m a with
  | nil => simp [writeBytes]
  | cons w ws ih =>
    simp only [List.length_cons] at hr ⊢
    simp only [writeBytes]
    rw [ih (write_wf w h (by omega)) (a + 1) (by omega), read_write h]
    by_cases h1 : a + 1 ≤ b ∧ b < a + 1 + ws.length
    · rw [if_pos h1, if_pos (by omega), show b - a = (b - (a + 1)) + 1 by omega, List.getD_cons_succ]
    · rw [if_neg h1]
      by_cases h2 : b = a
      · subst h2
        rw [if_pos rfl, if_pos (by omega)]
        simp
      · rw [if_neg h2, if_neg (by omega)]

/-! ### Equal readings -/

/-- Two canonical memories that read alike everywhere are the same list. -/
theorem eq_of_read_eq_from {lo : Nat} {m n : Memory} (hm : wfFrom lo m = true) (hn : wfFrom lo n = true)
    (h : ∀ a, m.read a = n.read a) : m = n := by
  induction m generalizing lo n with
  | nil =>
    cases n with
    | nil => rfl
    | cons d n =>
      obtain ⟨b, u⟩ := d
      have hb := h b
      simp [read] at hb
      exact absurd hb.symm (wfFrom_cons.1 hn).2.2.1
  | cons c m ih =>
    obtain ⟨a, w⟩ := c
    have hc := wfFrom_cons.1 hm
    cases n with
    | nil =>
      have ha := h a
      simp [read] at ha
      exact absurd ha hc.2.2.1
    | cons d n =>
      obtain ⟨b, u⟩ := d
      have hd := wfFrom_cons.1 hn
      have hab : a = b := by
        by_contra hne
        rcases Nat.lt_or_gt_of_ne hne with hlt | hgt
        · have ha := h a
          rw [read_of_lt (m := (b, u) :: n) (wfFrom_cons.2 ⟨Nat.le_refl b, hd.2⟩) hlt] at ha
          simp [read] at ha
          exact hc.2.2.1 ha
        · have hb := h b
          rw [read_of_lt (m := (a, w) :: m) (wfFrom_cons.2 ⟨Nat.le_refl a, hc.2⟩) hgt] at hb
          simp [read] at hb
          exact hd.2.2.1 hb.symm
      subst hab
      have hwu : w = u := by simpa [read] using h a
      subst hwu
      congr 1
      refine ih hc.2.2.2 hd.2.2.2 fun e => ?_
      by_cases he : e = a
      · subst he
        rw [read_of_lt hc.2.2.2 (by omega), read_of_lt hd.2.2.2 (by omega)]
      · simpa [read, he] using h e

/-- Equal memories are equal data (log 17). -/
theorem eq_of_read_eq {m n : Memory} (hm : m.wf = true) (hn : n.wf = true) (h : ∀ a, m.read a = n.read a) : m = n :=
  eq_of_read_eq_from hm hn h

end Sys2Proof.Machine.Memory
end

