-- ==== Sys2Proof/Laws/Operands.lean ====
section
/-!
SUPPORT. Access lists and register ranges (spec/20_memory.md R69, R73; spec/42_index_memory.md R202, R206).
-/

namespace Sys2Proof.Machine

@[simp] theorem length_accessList (base n : Nat) : (accessList base n).length = n := by simp [accessList]

theorem mem_accessList {base n a : Nat} : a ∈ accessList base n ↔ base ≤ a ∧ a < base + n := by
  simp only [accessList, List.mem_map, List.mem_range]
  constructor
  · rintro ⟨k, hk, rfl⟩
    omega
  · intro h
    exact ⟨a - base, by omega, by omega⟩

/-- The lowest address of a transfer that does not exist: `max(base, 0x1000)` when the transfer leaves the address space, none
otherwise (R73, R301). -/
theorem firstOutOfRange_accessList (base n : Nat) :
    firstOutOfRange (accessList base n) = if 0 < n ∧ 0x1000 < base + n then some (max base 0x1000) else none := by
  unfold firstOutOfRange accessList
  rw [List.find?_map, show ((fun a => decide (lastAddress < a)) ∘ fun k => base + k) = fun k => decide (0xFFF < base + k) from rfl]
  by_cases h : 0 < n ∧ 0x1000 < base + n
  · have hfind : (List.range n).find? (fun k => decide (0xFFF < base + k)) = some (max base 0x1000 - base) := by
      rw [List.find?_range_eq_some]
      refine ⟨decide_eq_true (by omega), List.mem_range.2 (by omega), fun j hj => ?_⟩
      have : ¬ 0xFFF < base + j := by omega
      simp only [this, decide_false, Bool.not_false]
    rw [hfind, if_pos h, Option.map_some]
    congr 1
    omega
  · have hfind : (List.range n).find? (fun k => decide (0xFFF < base + k)) = none := by
      rw [List.find?_eq_none]
      intro k hk
      have hk' := List.mem_range.1 hk
      rw [decide_eq_true_eq]
      omega
    rw [hfind, if_neg h, Option.map_none]

theorem mem_regsUpTo {x r : Reg} : r ∈ regsUpTo x ↔ r.val ≤ x.val := by
  revert x r
  decide

@[simp] theorem length_regsUpTo (x : Reg) : (regsUpTo x).length = x.val + 1 := by
  revert x
  decide

theorem nodup_regsUpTo (x : Reg) : (regsUpTo x).Nodup := by
  revert x
  decide

/-- The registers of a block transfer stand in the list at their own number. -/
theorem getElem?_regsUpTo (x r : Reg) (h : r.val ≤ x.val) : (regsUpTo x)[r.val]? = some r := by
  revert x r
  decide

@[simp] theorem length_decimalDigits (b : Byte) : (decimalDigits b).length = 3 := rfl

end Sys2Proof.Machine
end

