-- ==== Sys2Proof/Laws/State.lean ====
section
/-!
SUPPORT. For each named update of State, one lemma per field, so that no proof unfolds a record update.
-/

namespace Sys2Proof.Machine.State

variable (s : State)

/-! ### writeReg -/

@[simp] theorem writeReg_v (r : Reg) (b : Byte) : (s.writeReg r b).v = s.v.set r.val b r.isLt := rfl
@[simp] theorem writeReg_i (r : Reg) (b : Byte) : (s.writeReg r b).i = s.i := rfl
@[simp] theorem writeReg_pc (r : Reg) (b : Byte) : (s.writeReg r b).pc = s.pc := rfl
@[simp] theorem writeReg_stack (r : Reg) (b : Byte) : (s.writeReg r b).stack = s.stack := rfl
@[simp] theorem writeReg_dt (r : Reg) (b : Byte) : (s.writeReg r b).dt = s.dt := rfl
@[simp] theorem writeReg_st (r : Reg) (b : Byte) : (s.writeReg r b).st = s.st := rfl
@[simp] theorem writeReg_mem (r : Reg) (b : Byte) : (s.writeReg r b).mem = s.mem := rfl
@[simp] theorem writeReg_fb (r : Reg) (b : Byte) : (s.writeReg r b).fb = s.fb := rfl
@[simp] theorem writeReg_redraw (r : Reg) (b : Byte) : (s.writeReg r b).redraw = s.redraw := rfl
@[simp] theorem writeReg_toneOn (r : Reg) (b : Byte) : (s.writeReg r b).toneOn = s.toneOn := rfl
@[simp] theorem writeReg_keys (r : Reg) (b : Byte) : (s.writeReg r b).keys = s.keys := rfl
@[simp] theorem writeReg_runState (r : Reg) (b : Byte) : (s.writeReg r b).runState = s.runState := rfl
@[simp] theorem writeReg_faultCode (r : Reg) (b : Byte) : (s.writeReg r b).faultCode = s.faultCode := rfl
@[simp] theorem writeReg_faultInfo (r : Reg) (b : Byte) : (s.writeReg r b).faultInfo = s.faultInfo := rfl
@[simp] theorem writeReg_reports (r : Reg) (b : Byte) : (s.writeReg r b).reports = s.reports := rfl
@[simp] theorem writeReg_draws (r : Reg) (b : Byte) : (s.writeReg r b).draws = s.draws := rfl

/-! ### setFlag -/

@[simp] theorem setFlag_v (b : Byte) : (s.setFlag b).v = s.v.set VF.val b VF.isLt := rfl
@[simp] theorem setFlag_i (b : Byte) : (s.setFlag b).i = s.i := rfl
@[simp] theorem setFlag_pc (b : Byte) : (s.setFlag b).pc = s.pc := rfl
@[simp] theorem setFlag_stack (b : Byte) : (s.setFlag b).stack = s.stack := rfl
@[simp] theorem setFlag_dt (b : Byte) : (s.setFlag b).dt = s.dt := rfl
@[simp] theorem setFlag_st (b : Byte) : (s.setFlag b).st = s.st := rfl
@[simp] theorem setFlag_mem (b : Byte) : (s.setFlag b).mem = s.mem := rfl
@[simp] theorem setFlag_fb (b : Byte) : (s.setFlag b).fb = s.fb := rfl
@[simp] theorem setFlag_redraw (b : Byte) : (s.setFlag b).redraw = s.redraw := rfl
@[simp] theorem setFlag_toneOn (b : Byte) : (s.setFlag b).toneOn = s.toneOn := rfl
@[simp] theorem setFlag_keys (b : Byte) : (s.setFlag b).keys = s.keys := rfl
@[simp] theorem setFlag_runState (b : Byte) : (s.setFlag b).runState = s.runState := rfl
@[simp] theorem setFlag_faultCode (b : Byte) : (s.setFlag b).faultCode = s.faultCode := rfl
@[simp] theorem setFlag_faultInfo (b : Byte) : (s.setFlag b).faultInfo = s.faultInfo := rfl
@[simp] theorem setFlag_reports (b : Byte) : (s.setFlag b).reports = s.reports := rfl
@[simp] theorem setFlag_draws (b : Byte) : (s.setFlag b).draws = s.draws := rfl

/-! ### setI -/

@[simp] theorem setI_v (a : Word) : (s.setI a).v = s.v := rfl
@[simp] theorem setI_i (a : Word) : (s.setI a).i = a := rfl
@[simp] theorem setI_pc (a : Word) : (s.setI a).pc = s.pc := rfl
@[simp] theorem setI_stack (a : Word) : (s.setI a).stack = s.stack := rfl
@[simp] theorem setI_dt (a : Word) : (s.setI a).dt = s.dt := rfl
@[simp] theorem setI_st (a : Word) : (s.setI a).st = s.st := rfl
@[simp] theorem setI_mem (a : Word) : (s.setI a).mem = s.mem := rfl
@[simp] theorem setI_fb (a : Word) : (s.setI a).fb = s.fb := rfl
@[simp] theorem setI_redraw (a : Word) : (s.setI a).redraw = s.redraw := rfl
@[simp] theorem setI_toneOn (a : Word) : (s.setI a).toneOn = s.toneOn := rfl
@[simp] theorem setI_keys (a : Word) : (s.setI a).keys = s.keys := rfl
@[simp] theorem setI_runState (a : Word) : (s.setI a).runState = s.runState := rfl
@[simp] theorem setI_faultCode (a : Word) : (s.setI a).faultCode = s.faultCode := rfl
@[simp] theorem setI_faultInfo (a : Word) : (s.setI a).faultInfo = s.faultInfo := rfl
@[simp] theorem setI_reports (a : Word) : (s.setI a).reports = s.reports := rfl
@[simp] theorem setI_draws (a : Word) : (s.setI a).draws = s.draws := rfl

/-! ### setDt -/

@[simp] theorem setDt_v (b : Byte) : (s.setDt b).v = s.v := rfl
@[simp] theorem setDt_i (b : Byte) : (s.setDt b).i = s.i := rfl
@[simp] theorem setDt_pc (b : Byte) : (s.setDt b).pc = s.pc := rfl
@[simp] theorem setDt_stack (b : Byte) : (s.setDt b).stack = s.stack := rfl
@[simp] theorem setDt_dt (b : Byte) : (s.setDt b).dt = b := rfl
@[simp] theorem setDt_st (b : Byte) : (s.setDt b).st = s.st := rfl
@[simp] theorem setDt_mem (b : Byte) : (s.setDt b).mem = s.mem := rfl
@[simp] theorem setDt_fb (b : Byte) : (s.setDt b).fb = s.fb := rfl
@[simp] theorem setDt_redraw (b : Byte) : (s.setDt b).redraw = s.redraw := rfl
@[simp] theorem setDt_toneOn (b : Byte) : (s.setDt b).toneOn = s.toneOn := rfl
@[simp] theorem setDt_keys (b : Byte) : (s.setDt b).keys = s.keys := rfl
@[simp] theorem setDt_runState (b : Byte) : (s.setDt b).runState = s.runState := rfl
@[simp] theorem setDt_faultCode (b : Byte) : (s.setDt b).faultCode = s.faultCode := rfl
@[simp] theorem setDt_faultInfo (b : Byte) : (s.setDt b).faultInfo = s.faultInfo := rfl
@[simp] theorem setDt_reports (b : Byte) : (s.setDt b).reports = s.reports := rfl
@[simp] theorem setDt_draws (b : Byte) : (s.setDt b).draws = s.draws := rfl

/-! ### setSt -/

@[simp] theorem setSt_v (b : Byte) : (s.setSt b).v = s.v := rfl
@[simp] theorem setSt_i (b : Byte) : (s.setSt b).i = s.i := rfl
@[simp] theorem setSt_pc (b : Byte) : (s.setSt b).pc = s.pc := rfl
@[simp] theorem setSt_stack (b : Byte) : (s.setSt b).stack = s.stack := rfl
@[simp] theorem setSt_dt (b : Byte) : (s.setSt b).dt = s.dt := rfl
@[simp] theorem setSt_st (b : Byte) : (s.setSt b).st = b := rfl
@[simp] theorem setSt_mem (b : Byte) : (s.setSt b).mem = s.mem := rfl
@[simp] theorem setSt_fb (b : Byte) : (s.setSt b).fb = s.fb := rfl
@[simp] theorem setSt_redraw (b : Byte) : (s.setSt b).redraw = s.redraw := rfl
@[simp] theorem setSt_toneOn (b : Byte) : (s.setSt b).toneOn = s.toneOn := rfl
@[simp] theorem setSt_keys (b : Byte) : (s.setSt b).keys = s.keys := rfl
@[simp] theorem setSt_runState (b : Byte) : (s.setSt b).runState = s.runState := rfl
@[simp] theorem setSt_faultCode (b : Byte) : (s.setSt b).faultCode = s.faultCode := rfl
@[simp] theorem setSt_faultInfo (b : Byte) : (s.setSt b).faultInfo = s.faultInfo := rfl
@[simp] theorem setSt_reports (b : Byte) : (s.setSt b).reports = s.reports := rfl
@[simp] theorem setSt_draws (b : Byte) : (s.setSt b).draws = s.draws := rfl

/-! ### setTone -/

@[simp] theorem setTone_v (b : Bool) : (s.setTone b).v = s.v := rfl
@[simp] theorem setTone_i (b : Bool) : (s.setTone b).i = s.i := rfl
@[simp] theorem setTone_pc (b : Bool) : (s.setTone b).pc = s.pc := rfl
@[simp] theorem setTone_stack (b : Bool) : (s.setTone b).stack = s.stack := rfl
@[simp] theorem setTone_dt (b : Bool) : (s.setTone b).dt = s.dt := rfl
@[simp] theorem setTone_st (b : Bool) : (s.setTone b).st = s.st := rfl
@[simp] theorem setTone_mem (b : Bool) : (s.setTone b).mem = s.mem := rfl
@[simp] theorem setTone_fb (b : Bool) : (s.setTone b).fb = s.fb := rfl
@[simp] theorem setTone_redraw (b : Bool) : (s.setTone b).redraw = s.redraw := rfl
@[simp] theorem setTone_toneOn (b : Bool) : (s.setTone b).toneOn = b := rfl
@[simp] theorem setTone_keys (b : Bool) : (s.setTone b).keys = s.keys := rfl
@[simp] theorem setTone_runState (b : Bool) : (s.setTone b).runState = s.runState := rfl
@[simp] theorem setTone_faultCode (b : Bool) : (s.setTone b).faultCode = s.faultCode := rfl
@[simp] theorem setTone_faultInfo (b : Bool) : (s.setTone b).faultInfo = s.faultInfo := rfl
@[simp] theorem setTone_reports (b : Bool) : (s.setTone b).reports = s.reports := rfl
@[simp] theorem setTone_draws (b : Bool) : (s.setTone b).draws = s.draws := rfl

/-! ### setMem -/

@[simp] theorem setMem_v (m : Memory) : (s.setMem m).v = s.v := rfl
@[simp] theorem setMem_i (m : Memory) : (s.setMem m).i = s.i := rfl
@[simp] theorem setMem_pc (m : Memory) : (s.setMem m).pc = s.pc := rfl
@[simp] theorem setMem_stack (m : Memory) : (s.setMem m).stack = s.stack := rfl
@[simp] theorem setMem_dt (m : Memory) : (s.setMem m).dt = s.dt := rfl
@[simp] theorem setMem_st (m : Memory) : (s.setMem m).st = s.st := rfl
@[simp] theorem setMem_mem (m : Memory) : (s.setMem m).mem = m := rfl
@[simp] theorem setMem_fb (m : Memory) : (s.setMem m).fb = s.fb := rfl
@[simp] theorem setMem_redraw (m : Memory) : (s.setMem m).redraw = s.redraw := rfl
@[simp] theorem setMem_toneOn (m : Memory) : (s.setMem m).toneOn = s.toneOn := rfl
@[simp] theorem setMem_keys (m : Memory) : (s.setMem m).keys = s.keys := rfl
@[simp] theorem setMem_runState (m : Memory) : (s.setMem m).runState = s.runState := rfl
@[simp] theorem setMem_faultCode (m : Memory) : (s.setMem m).faultCode = s.faultCode := rfl
@[simp] theorem setMem_faultInfo (m : Memory) : (s.setMem m).faultInfo = s.faultInfo := rfl
@[simp] theorem setMem_reports (m : Memory) : (s.setMem m).reports = s.reports := rfl
@[simp] theorem setMem_draws (m : Memory) : (s.setMem m).draws = s.draws := rfl

/-! ### setFb -/

@[simp] theorem setFb_v (f : Framebuffer) : (s.setFb f).v = s.v := rfl
@[simp] theorem setFb_i (f : Framebuffer) : (s.setFb f).i = s.i := rfl
@[simp] theorem setFb_pc (f : Framebuffer) : (s.setFb f).pc = s.pc := rfl
@[simp] theorem setFb_stack (f : Framebuffer) : (s.setFb f).stack = s.stack := rfl
@[simp] theorem setFb_dt (f : Framebuffer) : (s.setFb f).dt = s.dt := rfl
@[simp] theorem setFb_st (f : Framebuffer) : (s.setFb f).st = s.st := rfl
@[simp] theorem setFb_mem (f : Framebuffer) : (s.setFb f).mem = s.mem := rfl
@[simp] theorem setFb_fb (f : Framebuffer) : (s.setFb f).fb = f := rfl
@[simp] theorem setFb_redraw (f : Framebuffer) : (s.setFb f).redraw = s.redraw := rfl
@[simp] theorem setFb_toneOn (f : Framebuffer) : (s.setFb f).toneOn = s.toneOn := rfl
@[simp] theorem setFb_keys (f : Framebuffer) : (s.setFb f).keys = s.keys := rfl
@[simp] theorem setFb_runState (f : Framebuffer) : (s.setFb f).runState = s.runState := rfl
@[simp] theorem setFb_faultCode (f : Framebuffer) : (s.setFb f).faultCode = s.faultCode := rfl
@[simp] theorem setFb_faultInfo (f : Framebuffer) : (s.setFb f).faultInfo = s.faultInfo := rfl
@[simp] theorem setFb_reports (f : Framebuffer) : (s.setFb f).reports = s.reports := rfl
@[simp] theorem setFb_draws (f : Framebuffer) : (s.setFb f).draws = s.draws := rfl

/-! ### setRedraw -/

@[simp] theorem setRedraw_v (b : Bool) : (s.setRedraw b).v = s.v := rfl
@[simp] theorem setRedraw_i (b : Bool) : (s.setRedraw b).i = s.i := rfl
@[simp] theorem setRedraw_pc (b : Bool) : (s.setRedraw b).pc = s.pc := rfl
@[simp] theorem setRedraw_stack (b : Bool) : (s.setRedraw b).stack = s.stack := rfl
@[simp] theorem setRedraw_dt (b : Bool) : (s.setRedraw b).dt = s.dt := rfl
@[simp] theorem setRedraw_st (b : Bool) : (s.setRedraw b).st = s.st := rfl
@[simp] theorem setRedraw_mem (b : Bool) : (s.setRedraw b).mem = s.mem := rfl
@[simp] theorem setRedraw_fb (b : Bool) : (s.setRedraw b).fb = s.fb := rfl
@[simp] theorem setRedraw_redraw (b : Bool) : (s.setRedraw b).redraw = b := rfl
@[simp] theorem setRedraw_toneOn (b : Bool) : (s.setRedraw b).toneOn = s.toneOn := rfl
@[simp] theorem setRedraw_keys (b : Bool) : (s.setRedraw b).keys = s.keys := rfl
@[simp] theorem setRedraw_runState (b : Bool) : (s.setRedraw b).runState = s.runState := rfl
@[simp] theorem setRedraw_faultCode (b : Bool) : (s.setRedraw b).faultCode = s.faultCode := rfl
@[simp] theorem setRedraw_faultInfo (b : Bool) : (s.setRedraw b).faultInfo = s.faultInfo := rfl
@[simp] theorem setRedraw_reports (b : Bool) : (s.setRedraw b).reports = s.reports := rfl
@[simp] theorem setRedraw_draws (b : Bool) : (s.setRedraw b).draws = s.draws := rfl

/-! ### setPc -/

@[simp] theorem setPc_v (a : Word) : (s.setPc a).v = s.v := rfl
@[simp] theorem setPc_i (a : Word) : (s.setPc a).i = s.i := rfl
@[simp] theorem setPc_pc (a : Word) : (s.setPc a).pc = a := rfl
@[simp] theorem setPc_stack (a : Word) : (s.setPc a).stack = s.stack := rfl
@[simp] theorem setPc_dt (a : Word) : (s.setPc a).dt = s.dt := rfl
@[simp] theorem setPc_st (a : Word) : (s.setPc a).st = s.st := rfl
@[simp] theorem setPc_mem (a : Word) : (s.setPc a).mem = s.mem := rfl
@[simp] theorem setPc_fb (a : Word) : (s.setPc a).fb = s.fb := rfl
@[simp] theorem setPc_redraw (a : Word) : (s.setPc a).redraw = s.redraw := rfl
@[simp] theorem setPc_toneOn (a : Word) : (s.setPc a).toneOn = s.toneOn := rfl
@[simp] theorem setPc_keys (a : Word) : (s.setPc a).keys = s.keys := rfl
@[simp] theorem setPc_runState (a : Word) : (s.setPc a).runState = s.runState := rfl
@[simp] theorem setPc_faultCode (a : Word) : (s.setPc a).faultCode = s.faultCode := rfl
@[simp] theorem setPc_faultInfo (a : Word) : (s.setPc a).faultInfo = s.faultInfo := rfl
@[simp] theorem setPc_reports (a : Word) : (s.setPc a).reports = s.reports := rfl
@[simp] theorem setPc_draws (a : Word) : (s.setPc a).draws = s.draws := rfl

/-! ### advance -/

@[simp] theorem advance_v : (s.advance).v = s.v := rfl
@[simp] theorem advance_i : (s.advance).i = s.i := rfl
@[simp] theorem advance_pc : (s.advance).pc = s.pc + 2#16 := rfl
@[simp] theorem advance_stack : (s.advance).stack = s.stack := rfl
@[simp] theorem advance_dt : (s.advance).dt = s.dt := rfl
@[simp] theorem advance_st : (s.advance).st = s.st := rfl
@[simp] theorem advance_mem : (s.advance).mem = s.mem := rfl
@[simp] theorem advance_fb : (s.advance).fb = s.fb := rfl
@[simp] theorem advance_redraw : (s.advance).redraw = s.redraw := rfl
@[simp] theorem advance_toneOn : (s.advance).toneOn = s.toneOn := rfl
@[simp] theorem advance_keys : (s.advance).keys = s.keys := rfl
@[simp] theorem advance_runState : (s.advance).runState = s.runState := rfl
@[simp] theorem advance_faultCode : (s.advance).faultCode = s.faultCode := rfl
@[simp] theorem advance_faultInfo : (s.advance).faultInfo = s.faultInfo := rfl
@[simp] theorem advance_reports : (s.advance).reports = s.reports := rfl
@[simp] theorem advance_draws : (s.advance).draws = s.draws := rfl

/-! ### skipIf -/

@[simp] theorem skipIf_v (c : Bool) : (s.skipIf c).v = s.v := rfl
@[simp] theorem skipIf_i (c : Bool) : (s.skipIf c).i = s.i := rfl
@[simp] theorem skipIf_pc (c : Bool) : (s.skipIf c).pc = s.pc + if c then 4#16 else 2#16 := rfl
@[simp] theorem skipIf_stack (c : Bool) : (s.skipIf c).stack = s.stack := rfl
@[simp] theorem skipIf_dt (c : Bool) : (s.skipIf c).dt = s.dt := rfl
@[simp] theorem skipIf_st (c : Bool) : (s.skipIf c).st = s.st := rfl
@[simp] theorem skipIf_mem (c : Bool) : (s.skipIf c).mem = s.mem := rfl
@[simp] theorem skipIf_fb (c : Bool) : (s.skipIf c).fb = s.fb := rfl
@[simp] theorem skipIf_redraw (c : Bool) : (s.skipIf c).redraw = s.redraw := rfl
@[simp] theorem skipIf_toneOn (c : Bool) : (s.skipIf c).toneOn = s.toneOn := rfl
@[simp] theorem skipIf_keys (c : Bool) : (s.skipIf c).keys = s.keys := rfl
@[simp] theorem skipIf_runState (c : Bool) : (s.skipIf c).runState = s.runState := rfl
@[simp] theorem skipIf_faultCode (c : Bool) : (s.skipIf c).faultCode = s.faultCode := rfl
@[simp] theorem skipIf_faultInfo (c : Bool) : (s.skipIf c).faultInfo = s.faultInfo := rfl
@[simp] theorem skipIf_reports (c : Bool) : (s.skipIf c).reports = s.reports := rfl
@[simp] theorem skipIf_draws (c : Bool) : (s.skipIf c).draws = s.draws := rfl

/-! ### setStack -/

@[simp] theorem setStack_v (l : List Word) : (s.setStack l).v = s.v := rfl
@[simp] theorem setStack_i (l : List Word) : (s.setStack l).i = s.i := rfl
@[simp] theorem setStack_pc (l : List Word) : (s.setStack l).pc = s.pc := rfl
@[simp] theorem setStack_stack (l : List Word) : (s.setStack l).stack = l := rfl
@[simp] theorem setStack_dt (l : List Word) : (s.setStack l).dt = s.dt := rfl
@[simp] theorem setStack_st (l : List Word) : (s.setStack l).st = s.st := rfl
@[simp] theorem setStack_mem (l : List Word) : (s.setStack l).mem = s.mem := rfl
@[simp] theorem setStack_fb (l : List Word) : (s.setStack l).fb = s.fb := rfl
@[simp] theorem setStack_redraw (l : List Word) : (s.setStack l).redraw = s.redraw := rfl
@[simp] theorem setStack_toneOn (l : List Word) : (s.setStack l).toneOn = s.toneOn := rfl
@[simp] theorem setStack_keys (l : List Word) : (s.setStack l).keys = s.keys := rfl
@[simp] theorem setStack_runState (l : List Word) : (s.setStack l).runState = s.runState := rfl
@[simp] theorem setStack_faultCode (l : List Word) : (s.setStack l).faultCode = s.faultCode := rfl
@[simp] theorem setStack_faultInfo (l : List Word) : (s.setStack l).faultInfo = s.faultInfo := rfl
@[simp] theorem setStack_reports (l : List Word) : (s.setStack l).reports = s.reports := rfl
@[simp] theorem setStack_draws (l : List Word) : (s.setStack l).draws = s.draws := rfl

/-! ### push -/

@[simp] theorem push_v (a : Word) : (s.push a).v = s.v := rfl
@[simp] theorem push_i (a : Word) : (s.push a).i = s.i := rfl
@[simp] theorem push_pc (a : Word) : (s.push a).pc = s.pc := rfl
@[simp] theorem push_stack (a : Word) : (s.push a).stack = a :: s.stack := rfl
@[simp] theorem push_dt (a : Word) : (s.push a).dt = s.dt := rfl
@[simp] theorem push_st (a : Word) : (s.push a).st = s.st := rfl
@[simp] theorem push_mem (a : Word) : (s.push a).mem = s.mem := rfl
@[simp] theorem push_fb (a : Word) : (s.push a).fb = s.fb := rfl
@[simp] theorem push_redraw (a : Word) : (s.push a).redraw = s.redraw := rfl
@[simp] theorem push_toneOn (a : Word) : (s.push a).toneOn = s.toneOn := rfl
@[simp] theorem push_keys (a : Word) : (s.push a).keys = s.keys := rfl
@[simp] theorem push_runState (a : Word) : (s.push a).runState = s.runState := rfl
@[simp] theorem push_faultCode (a : Word) : (s.push a).faultCode = s.faultCode := rfl
@[simp] theorem push_faultInfo (a : Word) : (s.push a).faultInfo = s.faultInfo := rfl
@[simp] theorem push_reports (a : Word) : (s.push a).reports = s.reports := rfl
@[simp] theorem push_draws (a : Word) : (s.push a).draws = s.draws := rfl

/-! ### raise -/

@[simp] theorem raise_v (f : Fatal) : (s.raise f).v = s.v := rfl
@[simp] theorem raise_i (f : Fatal) : (s.raise f).i = s.i := rfl
@[simp] theorem raise_pc (f : Fatal) : (s.raise f).pc = s.pc := rfl
@[simp] theorem raise_stack (f : Fatal) : (s.raise f).stack = s.stack := rfl
@[simp] theorem raise_dt (f : Fatal) : (s.raise f).dt = s.dt := rfl
@[simp] theorem raise_st (f : Fatal) : (s.raise f).st = s.st := rfl
@[simp] theorem raise_mem (f : Fatal) : (s.raise f).mem = s.mem := rfl
@[simp] theorem raise_fb (f : Fatal) : (s.raise f).fb = s.fb := rfl
@[simp] theorem raise_redraw (f : Fatal) : (s.raise f).redraw = s.redraw := rfl
@[simp] theorem raise_toneOn (f : Fatal) : (s.raise f).toneOn = s.toneOn := rfl
@[simp] theorem raise_keys (f : Fatal) : (s.raise f).keys = s.keys := rfl
@[simp] theorem raise_runState (f : Fatal) : (s.raise f).runState = .faulted := rfl
@[simp] theorem raise_faultCode (f : Fatal) : (s.raise f).faultCode = f.code := rfl
@[simp] theorem raise_faultInfo (f : Fatal) : (s.raise f).faultInfo = f.info := rfl
@[simp] theorem raise_reports (f : Fatal) : (s.raise f).reports = s.reports := rfl
@[simp] theorem raise_draws (f : Fatal) : (s.raise f).draws = s.draws := rfl

/-! ### nextDraw -/

@[simp] theorem nextDraw_v : (s.nextDraw).v = s.v := rfl
@[simp] theorem nextDraw_i : (s.nextDraw).i = s.i := rfl
@[simp] theorem nextDraw_pc : (s.nextDraw).pc = s.pc := rfl
@[simp] theorem nextDraw_stack : (s.nextDraw).stack = s.stack := rfl
@[simp] theorem nextDraw_dt : (s.nextDraw).dt = s.dt := rfl
@[simp] theorem nextDraw_st : (s.nextDraw).st = s.st := rfl
@[simp] theorem nextDraw_mem : (s.nextDraw).mem = s.mem := rfl
@[simp] theorem nextDraw_fb : (s.nextDraw).fb = s.fb := rfl
@[simp] theorem nextDraw_redraw : (s.nextDraw).redraw = s.redraw := rfl
@[simp] theorem nextDraw_toneOn : (s.nextDraw).toneOn = s.toneOn := rfl
@[simp] theorem nextDraw_keys : (s.nextDraw).keys = s.keys := rfl
@[simp] theorem nextDraw_runState : (s.nextDraw).runState = s.runState := rfl
@[simp] theorem nextDraw_faultCode : (s.nextDraw).faultCode = s.faultCode := rfl
@[simp] theorem nextDraw_faultInfo : (s.nextDraw).faultInfo = s.faultInfo := rfl
@[simp] theorem nextDraw_reports : (s.nextDraw).reports = s.reports := rfl
@[simp] theorem nextDraw_draws : (s.nextDraw).draws = s.draws + 1 := rfl

/-! ### report -/

@[simp] theorem report_v (op : Word) : (s.report op).v = s.v := rfl
@[simp] theorem report_i (op : Word) : (s.report op).i = s.i := rfl
@[simp] theorem report_pc (op : Word) : (s.report op).pc = s.pc := rfl
@[simp] theorem report_stack (op : Word) : (s.report op).stack = s.stack := rfl
@[simp] theorem report_dt (op : Word) : (s.report op).dt = s.dt := rfl
@[simp] theorem report_st (op : Word) : (s.report op).st = s.st := rfl
@[simp] theorem report_mem (op : Word) : (s.report op).mem = s.mem := rfl
@[simp] theorem report_fb (op : Word) : (s.report op).fb = s.fb := rfl
@[simp] theorem report_redraw (op : Word) : (s.report op).redraw = s.redraw := rfl
@[simp] theorem report_toneOn (op : Word) : (s.report op).toneOn = s.toneOn := rfl
@[simp] theorem report_keys (op : Word) : (s.report op).keys = s.keys := rfl
@[simp] theorem report_runState (op : Word) : (s.report op).runState = s.runState := rfl
@[simp] theorem report_faultCode (op : Word) : (s.report op).faultCode = s.faultCode := rfl
@[simp] theorem report_faultInfo (op : Word) : (s.report op).faultInfo = s.faultInfo := rfl
@[simp] theorem report_reports (op : Word) : (s.report op).reports = ⟨op, s.pc⟩ :: s.reports := rfl
@[simp] theorem report_draws (op : Word) : (s.report op).draws = s.draws := rfl

/-! ### setKey -/

@[simp] theorem setKey_v (k : KeyCode) (b : Bool) : (s.setKey k b).v = s.v := rfl
@[simp] theorem setKey_i (k : KeyCode) (b : Bool) : (s.setKey k b).i = s.i := rfl
@[simp] theorem setKey_pc (k : KeyCode) (b : Bool) : (s.setKey k b).pc = s.pc := rfl
@[simp] theorem setKey_stack (k : KeyCode) (b : Bool) : (s.setKey k b).stack = s.stack := rfl
@[simp] theorem setKey_dt (k : KeyCode) (b : Bool) : (s.setKey k b).dt = s.dt := rfl
@[simp] theorem setKey_st (k : KeyCode) (b : Bool) : (s.setKey k b).st = s.st := rfl
@[simp] theorem setKey_mem (k : KeyCode) (b : Bool) : (s.setKey k b).mem = s.mem := rfl
@[simp] theorem setKey_fb (k : KeyCode) (b : Bool) : (s.setKey k b).fb = s.fb := rfl
@[simp] theorem setKey_redraw (k : KeyCode) (b : Bool) : (s.setKey k b).redraw = s.redraw := rfl
@[simp] theorem setKey_toneOn (k : KeyCode) (b : Bool) : (s.setKey k b).toneOn = s.toneOn := rfl
@[simp] theorem setKey_keys (k : KeyCode) (b : Bool) : (s.setKey k b).keys = s.keys.set k.val b k.isLt := rfl
@[simp] theorem setKey_runState (k : KeyCode) (b : Bool) : (s.setKey k b).runState = s.runState := rfl
@[simp] theorem setKey_faultCode (k : KeyCode) (b : Bool) : (s.setKey k b).faultCode = s.faultCode := rfl
@[simp] theorem setKey_faultInfo (k : KeyCode) (b : Bool) : (s.setKey k b).faultInfo = s.faultInfo := rfl
@[simp] theorem setKey_reports (k : KeyCode) (b : Bool) : (s.setKey k b).reports = s.reports := rfl
@[simp] theorem setKey_draws (k : KeyCode) (b : Bool) : (s.setKey k b).draws = s.draws := rfl

/-! ### setRun -/

@[simp] theorem setRun_v (r : RunState) : (s.setRun r).v = s.v := rfl
@[simp] theorem setRun_i (r : RunState) : (s.setRun r).i = s.i := rfl
@[simp] theorem setRun_pc (r : RunState) : (s.setRun r).pc = s.pc := rfl
@[simp] theorem setRun_stack (r : RunState) : (s.setRun r).stack = s.stack := rfl
@[simp] theorem setRun_dt (r : RunState) : (s.setRun r).dt = s.dt := rfl
@[simp] theorem setRun_st (r : RunState) : (s.setRun r).st = s.st := rfl
@[simp] theorem setRun_mem (r : RunState) : (s.setRun r).mem = s.mem := rfl
@[simp] theorem setRun_fb (r : RunState) : (s.setRun r).fb = s.fb := rfl
@[simp] theorem setRun_redraw (r : RunState) : (s.setRun r).redraw = s.redraw := rfl
@[simp] theorem setRun_toneOn (r : RunState) : (s.setRun r).toneOn = s.toneOn := rfl
@[simp] theorem setRun_keys (r : RunState) : (s.setRun r).keys = s.keys := rfl
@[simp] theorem setRun_runState (r : RunState) : (s.setRun r).runState = r := rfl
@[simp] theorem setRun_faultCode (r : RunState) : (s.setRun r).faultCode = s.faultCode := rfl
@[simp] theorem setRun_faultInfo (r : RunState) : (s.setRun r).faultInfo = s.faultInfo := rfl
@[simp] theorem setRun_reports (r : RunState) : (s.setRun r).reports = s.reports := rfl
@[simp] theorem setRun_draws (r : RunState) : (s.setRun r).draws = s.draws := rfl

end Sys2Proof.Machine.State
end

