-- ==== Sys2Proof/Laws/Registers.lean ====
section
/-!
SUPPORT. The register file: what a write does to each register (spec/10_state.md R20, R21), and that no other update touches one.
-/

namespace Sys2Proof.Machine.State

variable (s : State)

/-- A register reads the value last written to it, and a write leaves the others alone. -/
theorem reg_writeReg (r : Reg) (b : Byte) (q : Reg) : (s.writeReg r b).reg q = if q = r then b else s.reg q := by
  simp only [reg, writeReg_v, Vector.get_eq_getElem, Vector.getElem_set, Fin.ext_iff, eq_comm]

@[simp] theorem reg_writeReg_same (r : Reg) (b : Byte) : (s.writeReg r b).reg r = b := by
  simp [reg_writeReg]

theorem reg_writeReg_ne {r q : Reg} (h : q ≠ r) (b : Byte) : (s.writeReg r b).reg q = s.reg q := by
  simp [reg_writeReg, h]

/-- A flag write is a write of `VF`. -/
theorem reg_setFlag (b : Byte) (q : Reg) : (s.setFlag b).reg q = if q = VF then b else s.reg q :=
  s.reg_writeReg VF b q

@[simp] theorem reg_setFlag_same (b : Byte) : (s.setFlag b).reg VF = b := s.reg_writeReg_same VF b

theorem reg_setFlag_ne {q : Reg} (h : q ≠ VF) (b : Byte) : (s.setFlag b).reg q = s.reg q := s.reg_writeReg_ne h b

/-! ### The other updates -/

@[simp] theorem reg_setI (a : Word) (q : Reg) : (s.setI a).reg q = s.reg q := rfl
@[simp] theorem reg_setDt (b : Byte) (q : Reg) : (s.setDt b).reg q = s.reg q := rfl
@[simp] theorem reg_setSt (b : Byte) (q : Reg) : (s.setSt b).reg q = s.reg q := rfl
@[simp] theorem reg_setTone (b : Bool) (q : Reg) : (s.setTone b).reg q = s.reg q := rfl
@[simp] theorem reg_setMem (m : Memory) (q : Reg) : (s.setMem m).reg q = s.reg q := rfl
@[simp] theorem reg_setFb (f : Framebuffer) (q : Reg) : (s.setFb f).reg q = s.reg q := rfl
@[simp] theorem reg_setRedraw (b : Bool) (q : Reg) : (s.setRedraw b).reg q = s.reg q := rfl
@[simp] theorem reg_setPc (a : Word) (q : Reg) : (s.setPc a).reg q = s.reg q := rfl
@[simp] theorem reg_advance (q : Reg) : (s.advance).reg q = s.reg q := rfl
@[simp] theorem reg_skipIf (c : Bool) (q : Reg) : (s.skipIf c).reg q = s.reg q := rfl
@[simp] theorem reg_setStack (l : List Word) (q : Reg) : (s.setStack l).reg q = s.reg q := rfl
@[simp] theorem reg_push (a : Word) (q : Reg) : (s.push a).reg q = s.reg q := rfl
@[simp] theorem reg_raise (f : Fatal) (q : Reg) : (s.raise f).reg q = s.reg q := rfl
@[simp] theorem reg_nextDraw (q : Reg) : (s.nextDraw).reg q = s.reg q := rfl
@[simp] theorem reg_report (op : Word) (q : Reg) : (s.report op).reg q = s.reg q := rfl
@[simp] theorem reg_setKey (k : KeyCode) (b : Bool) (q : Reg) : (s.setKey k b).reg q = s.reg q := rfl
@[simp] theorem reg_setRun (r : RunState) (q : Reg) : (s.setRun r).reg q = s.reg q := rfl

end Sys2Proof.Machine.State
end

