-- ==== Sys2Proof/Laws/Ops.lean ====
section
/-!
SUPPORT. What each shared operation of the meanings can do, said once: transfers with their range check, stores, loads, stack
operations, key choices.
-/

namespace Sys2Proof.Machine

/-! ### Transfers -/

/-- A guarded transfer either raises for the lowest address that does not exist, or has its own effect (R73, R301). -/
theorem State.guarded_accessList (s t : State) (base n : Nat) :
    s.guarded (accessList base n) t =
      if 0 < n ∧ 0x1000 < base + n then s.raise (.memOutOfRange (max base 0x1000)) else t := by
  unfold State.guarded
  rw [firstOutOfRange_accessList]
  split <;> rename_i h
  · split at h
    · rename_i hc
      rw [if_pos hc, Option.some.inj h]
    · cases h
  · split at h
    · cases h
    · rename_i hc
      rw [if_neg hc]

/-- The reported address fits 16 bits (R301). -/
theorem Fatal.toNat_info_memOutOfRange (a : Nat) (h : a ≤ 0xFFFF) : (Fatal.info (.memOutOfRange a)).toNat = a := by
  simp [Fatal.info]
  omega

theorem storeBytes_eq (bs : List Byte) (s : State) :
    storeBytes bs s =
      if 0 < bs.length ∧ 0x1000 < s.i.toNat + bs.length then s.raise (.memOutOfRange (max s.i.toNat 0x1000))
      else (s.setMem (s.mem.writeBytes s.i.toNat bs)).advance :=
  s.guarded_accessList _ s.i.toNat bs.length

/-! ### Loads -/

/-- A block load writes registers and nothing else. -/
theorem loadInto_frame (rs : List Reg) (s : State) : ∃ v, loadInto rs s = { s with v := v } := by
  unfold loadInto
  induction rs generalizing s with
  | nil => exact ⟨s.v, rfl⟩
  | cons r rs ih =>
    obtain ⟨v, hv⟩ := ih (s.writeReg r (s.mem.read (s.i.toNat + r.val)))
    exact ⟨v, hv⟩

/-- A register of the list is loaded from `I` plus its number, the others keep their values. -/
theorem reg_loadInto (rs : List Reg) (s : State) (q : Reg) :
    (loadInto rs s).reg q = if q ∈ rs then s.mem.read (s.i.toNat + q.val) else s.reg q := by
  unfold loadInto
  induction rs generalizing s with
  | nil => rfl
  | cons r rs ih =>
    rw [List.foldl_cons, ih, State.reg_writeReg]
    by_cases h : q ∈ rs
    · simp [h]
    · by_cases hq : q = r
      · subst hq
        simp [h]
      · simp [h, hq]

theorem execLoadRegs_eq (x : Reg) (s : State) :
    execLoadRegs x s = .next
      (if 0x1000 < s.i.toNat + (x.val + 1) then s.raise (.memOutOfRange (max s.i.toNat 0x1000))
       else (loadInto (regsUpTo x) s).advance) := by
  unfold execLoadRegs
  rw [State.guarded_accessList]
  simp

/-! ### Draws -/

theorem drawAt_eq (x0 y0 : Byte) (n : Nat) (s : State) :
    drawAt x0 y0 n s =
      if 0 < n ∧ 0x1000 < s.i.toNat + n then s.raise (.memOutOfRange (max s.i.toNat 0x1000))
      else
        ((((s.setFlag (flagByte (drawSprite s.fb x0.toNat y0.toNat (s.bytesAt (accessList s.i.toNat n))).hit)).setFb
          (drawSprite s.fb x0.toNat y0.toNat (s.bytesAt (accessList s.i.toNat n))).fb).setRedraw true).advance) :=
  s.guarded_accessList _ s.i.toNat n

/-! ### Register results -/

/-- A plain result changes its register and no other. -/
theorem reg_assign (x : Reg) (b : Byte) (s : State) (q : Reg) : (assign x b s).reg q = if q = x then b else s.reg q :=
  s.reg_writeReg x b q

/-- The flag is written last, so it stands when the destination is `VF` (R183). -/
theorem reg_assignThenFlag (x : Reg) (b flag : Byte) (s : State) (q : Reg) :
    (assignThenFlag x b flag s).reg q = if q = VF then flag else if q = x then b else s.reg q := by
  rw [assignThenFlag, State.reg_advance, State.reg_setFlag, State.reg_writeReg]

/-- The flag is written first, so it is what a shift of `VF` shifts (R183). -/
theorem reg_flagThenShift (x : Reg) (flag : Byte) (shift : Byte → Byte) (s : State) (q : Reg) :
    (flagThenShift x flag shift s).reg q =
      if q = x then shift (if x = VF then flag else s.reg x) else if q = VF then flag else s.reg q := by
  rw [flagThenShift, State.reg_advance, State.reg_writeReg, State.reg_setFlag, State.reg_setFlag]

/-- What CXNN leaves in a register, under any configuration (R181). -/
theorem reg_randomTo (c : Config) (x : Reg) (nn : Byte) (s : State) (q : Reg) :
    (randomTo c x nn s).reg q = if q = x then (if c.rndMasked then c.rand s.draws &&& nn else c.rand s.draws) else s.reg q := by
  rw [randomTo, State.reg_nextDraw, reg_assign]
  rfl

/-! ### Stack -/

theorem returnFrom_nil {s : State} (h : s.stack = []) : returnFrom s = s.raise .stackUnderflow := by
  simp [returnFrom, h]

theorem returnFrom_cons {s : State} {a : Word} {rest : List Word} (h : s.stack = a :: rest) :
    returnFrom s = (s.setStack rest).setPc (a + 2#16) := by
  simp [returnFrom, h]

theorem callTo_full {s : State} (target : Word) (h : s.stack.length = 16) :
    callTo hardware target s = s.raise .stackOverflow := by
  simp [callTo, stackFull, hardware, h]

theorem callTo_room {s : State} (target : Word) (h : s.stack.length ≠ 16) :
    callTo hardware target s = (s.push s.pc).setPc target := by
  simp [callTo, stackFull, hardware, h]

/-! ### Keys -/

theorem mem_pressedKeys {s : State} {k : KeyCode} : k ∈ s.pressedKeys ↔ s.keys.get k = true := by
  have hall : k ∈ allKeys := by
    revert k
    decide
  simp [State.pressedKeys, hall]

/-- The key chosen is one of the pressed ones (R252). -/
theorem selectKey_mem (c : Config) (s : State) (k : KeyCode) (ks : List KeyCode) : selectKey c s k ks ∈ k :: ks := by
  have h : c.keySelect s.draws (k :: ks) % (ks.length + 1) < (k :: ks).length :=
    Nat.mod_lt _ (Nat.succ_pos _)
  unfold selectKey
  rw [List.getD_eq_getElem _ _ h]
  exact List.getElem_mem h

theorem toNat_keyByte (k : KeyCode) : (keyByte k).toNat = k.val := by
  simp [keyByte]
  omega

theorem keyByte_injective {k l : KeyCode} (h : keyByte k = keyByte l) : k = l := by
  have := congrArg BitVec.toNat h
  rw [toNat_keyByte, toNat_keyByte] at this
  exact Fin.ext this

/-- FX0A with no key pressed changes nothing (R252). -/
theorem waitKey_none {s : State} (x : Reg) (h : s.pressedKeys = []) : waitKey hardware x s = s := by
  simp [waitKey, h, hardware]

theorem waitKey_some {s : State} {k : KeyCode} {ks : List KeyCode} (c : Config) (x : Reg) (h : s.pressedKeys = k :: ks) :
    waitKey c x s = (assign x (keyByte (selectKey c s k ks)) s).nextDraw := by
  simp [waitKey, h]

/-! ### Flags -/

theorem toNat_flagByte (b : Bool) : (flagByte b).toNat = if b then 1 else 0 := by
  cases b <;> rfl

end Sys2Proof.Machine
end

