-- ==== Sys2Proof/Laws/PerInstr.lean ====
section
/-!
SUPPORT. Facts about every instruction as syntax, one lemma per constructor. Family EncodingRow: the word of an instruction is
accepted by the row of the opcode table that bears its mnemonic (spec/30_encoding.md R104).
-/

namespace Sys2Proof.Laws.EncodingRow

/-- The instruction's own row of the table accepts its word. -/
def Statement (i : Instr) : Prop :=
  ∃ row ∈ opcodeTable, row.mnemonic = mnemonicOf i ∧ encode i &&& row.mask = row.pattern

theorem cls : Statement .cls :=
  ⟨⟨"CLS", 0xFFFF#16, 0x00E0#16⟩, by decide, rfl, rfl⟩

theorem ret : Statement .ret :=
  ⟨⟨"RET", 0xFFFF#16, 0x00EE#16⟩, by decide, rfl, rfl⟩

theorem jp (nnn : BitVec 12) : Statement (.jp nnn) :=
  ⟨⟨"JP", 0xF000#16, 0x1000#16⟩, by decide, rfl, formatNNN_and_mask _ _⟩

theorem call (nnn : BitVec 12) : Statement (.call nnn) :=
  ⟨⟨"CALL", 0xF000#16, 0x2000#16⟩, by decide, rfl, formatNNN_and_mask _ _⟩

theorem se (x : Reg) (nn : Byte) : Statement (.se x nn) :=
  ⟨⟨"SE", 0xF000#16, 0x3000#16⟩, by decide, rfl, formatXNN_and_class _ _ _⟩

theorem sne (x : Reg) (nn : Byte) : Statement (.sne x nn) :=
  ⟨⟨"SNE", 0xF000#16, 0x4000#16⟩, by decide, rfl, formatXNN_and_class _ _ _⟩

theorem seReg (x y : Reg) : Statement (.seReg x y) :=
  ⟨⟨"SE_reg", 0xF00F#16, 0x5000#16⟩, by decide, rfl, formatXYN_and_nibble _ _ _ _⟩

theorem ld (x : Reg) (nn : Byte) : Statement (.ld x nn) :=
  ⟨⟨"LD", 0xF000#16, 0x6000#16⟩, by decide, rfl, formatXNN_and_class _ _ _⟩

theorem add (x : Reg) (nn : Byte) : Statement (.add x nn) :=
  ⟨⟨"ADD", 0xF000#16, 0x7000#16⟩, by decide, rfl, formatXNN_and_class _ _ _⟩

theorem ldReg (x y : Reg) : Statement (.ldReg x y) :=
  ⟨⟨"LD_reg", 0xF00F#16, 0x8000#16⟩, by decide, rfl, formatXYN_and_nibble _ _ _ _⟩

theorem or (x y : Reg) : Statement (.or x y) :=
  ⟨⟨"OR", 0xF00F#16, 0x8001#16⟩, by decide, rfl, formatXYN_and_nibble _ _ _ _⟩

theorem and (x y : Reg) : Statement (.and x y) :=
  ⟨⟨"AND", 0xF00F#16, 0x8002#16⟩, by decide, rfl, formatXYN_and_nibble _ _ _ _⟩

theorem xor (x y : Reg) : Statement (.xor x y) :=
  ⟨⟨"XOR", 0xF00F#16, 0x8003#16⟩, by decide, rfl, formatXYN_and_nibble _ _ _ _⟩

theorem addReg (x y : Reg) : Statement (.addReg x y) :=
  ⟨⟨"ADD_reg", 0xF00F#16, 0x8004#16⟩, by decide, rfl, formatXYN_and_nibble _ _ _ _⟩

theorem sub (x y : Reg) : Statement (.sub x y) :=
  ⟨⟨"SUB", 0xF00F#16, 0x8005#16⟩, by decide, rfl, formatXYN_and_nibble _ _ _ _⟩

theorem shr (x y : Reg) : Statement (.shr x y) :=
  ⟨⟨"SHR", 0xF00F#16, 0x8006#16⟩, by decide, rfl, formatXYN_and_nibble _ _ _ _⟩

theorem subn (x y : Reg) : Statement (.subn x y) :=
  ⟨⟨"SUBN", 0xF00F#16, 0x8007#16⟩, by decide, rfl, formatXYN_and_nibble _ _ _ _⟩

theorem shl (x y : Reg) : Statement (.shl x y) :=
  ⟨⟨"SHL", 0xF00F#16, 0x800E#16⟩, by decide, rfl, formatXYN_and_nibble _ _ _ _⟩

theorem sneReg (x y : Reg) : Statement (.sneReg x y) :=
  ⟨⟨"SNE_reg", 0xF00F#16, 0x9000#16⟩, by decide, rfl, formatXYN_and_nibble _ _ _ _⟩

theorem ldI (nnn : BitVec 12) : Statement (.ldI nnn) :=
  ⟨⟨"LD_I", 0xF000#16, 0xA000#16⟩, by decide, rfl, formatNNN_and_mask _ _⟩

theorem jpV0 (nnn : BitVec 12) : Statement (.jpV0 nnn) :=
  ⟨⟨"JP_V0", 0xF000#16, 0xB000#16⟩, by decide, rfl, formatNNN_and_mask _ _⟩

theorem rnd (x : Reg) (nn : Byte) : Statement (.rnd x nn) :=
  ⟨⟨"RND", 0xF000#16, 0xC000#16⟩, by decide, rfl, formatXNN_and_class _ _ _⟩

theorem drw (x y : Reg) (n : BitVec 4) : Statement (.drw x y n) :=
  ⟨⟨"DRW", 0xF000#16, 0xD000#16⟩, by decide, rfl, formatXYN_and_class _ _ _ _⟩

theorem skp (x : Reg) : Statement (.skp x) :=
  ⟨⟨"SKP", 0xF0FF#16, 0xE09E#16⟩, by decide, rfl, formatXNN_and_low _ _ _⟩

theorem sknp (x : Reg) : Statement (.sknp x) :=
  ⟨⟨"SKNP", 0xF0FF#16, 0xE0A1#16⟩, by decide, rfl, formatXNN_and_low _ _ _⟩

theorem ldVxDt (x : Reg) : Statement (.ldVxDt x) :=
  ⟨⟨"LD_Vx_DT", 0xF0FF#16, 0xF007#16⟩, by decide, rfl, formatXNN_and_low _ _ _⟩

theorem ldVxK (x : Reg) : Statement (.ldVxK x) :=
  ⟨⟨"LD_Vx_K", 0xF0FF#16, 0xF00A#16⟩, by decide, rfl, formatXNN_and_low _ _ _⟩

theorem ldDtVx (x : Reg) : Statement (.ldDtVx x) :=
  ⟨⟨"LD_DT_Vx", 0xF0FF#16, 0xF015#16⟩, by decide, rfl, formatXNN_and_low _ _ _⟩

theorem ldStVx (x : Reg) : Statement (.ldStVx x) :=
  ⟨⟨"LD_ST_Vx", 0xF0FF#16, 0xF018#16⟩, by decide, rfl, formatXNN_and_low _ _ _⟩

theorem addIVx (x : Reg) : Statement (.addIVx x) :=
  ⟨⟨"ADD_I_Vx", 0xF0FF#16, 0xF01E#16⟩, by decide, rfl, formatXNN_and_low _ _ _⟩

theorem ldFVx (x : Reg) : Statement (.ldFVx x) :=
  ⟨⟨"LD_F_Vx", 0xF0FF#16, 0xF029#16⟩, by decide, rfl, formatXNN_and_low _ _ _⟩

theorem ldBVx (x : Reg) : Statement (.ldBVx x) :=
  ⟨⟨"LD_B_Vx", 0xF0FF#16, 0xF033#16⟩, by decide, rfl, formatXNN_and_low _ _ _⟩

theorem storeRegs (x : Reg) : Statement (.storeRegs x) :=
  ⟨⟨"LD__I__Vx", 0xF0FF#16, 0xF055#16⟩, by decide, rfl, formatXNN_and_low _ _ _⟩

theorem loadRegs (x : Reg) : Statement (.loadRegs x) :=
  ⟨⟨"LD_Vx__I", 0xF0FF#16, 0xF065#16⟩, by decide, rfl, formatXNN_and_low _ _ _⟩

end Sys2Proof.Laws.EncodingRow
end

