-- ==== Sys2Proof/Laws/Step.lean ====
section
/-!
SUPPORT. What a step can do, said once: the phases, the three outcomes of a fetch, and the two of a fetched word (spec/60_exceptions.md R320).
-/

namespace Sys2Proof.Machine

/-! ### Phases (a) and (b) -/

@[simp] theorem phaseA_dt (s : State) : (phaseA s).dt = countDown s.dt := rfl
@[simp] theorem phaseA_st (s : State) : (phaseA s).st = countDown s.st := rfl
@[simp] theorem phaseB_toneOn (s : State) : (phaseB s).toneOn = decide (0 < s.st.toNat) := rfl

/-- Phases (a) and (b) write the timers and the tone and nothing else. -/
theorem phaseB_phaseA (s : State) :
    phaseB (phaseA s) =
      { s with dt := countDown s.dt, st := countDown s.st, toneOn := decide (0 < (countDown s.st).toNat) } := rfl

/-- A timer is one less, or stays at 0 (R321). -/
theorem toNat_countDown (b : Byte) : (countDown b).toNat = b.toNat - 1 := by
  unfold countDown
  split
  · rename_i h
    simp [h]
  · rename_i h
    have hb : b.toNat ≠ 0 := fun h0 => h (BitVec.eq_of_toNat_eq (by simpa using h0))
    rw [BitVec.toNat_sub_of_le (by rw [BitVec.le_def]; simp; omega)]
    rfl

/-! ### Fetch -/

theorem fetch_value {s : State} (h : s.pc.toNat ≤ 0xFFE) :
    fetch s = .value (joinBytes (s.mem.read s.pc.toNat) (s.mem.read (s.pc.toNat + 1))) := by
  simp [fetch, memRead, lastAddress, show ¬ 0xFFF < s.pc.toNat by omega, show ¬ 0xFFF < s.pc.toNat + 1 by omega]

theorem fetch_second {s : State} (h : s.pc.toNat = 0xFFF) : fetch s = .fatal (.memOutOfRange 0x1000) := by
  simp [fetch, memRead, lastAddress, h]

theorem fetch_first {s : State} (h : 0xFFF < s.pc.toNat) : fetch s = .fatal (.memOutOfRange s.pc.toNat) := by
  simp [fetch, memRead, lastAddress, h]

/-- A fetch raises exactly when `pc > 0xFFE`, with the first address that does not exist (R101). -/
theorem fetch_fatal {s : State} (h : 0xFFE < s.pc.toNat) : fetch s = .fatal (.memOutOfRange (max s.pc.toNat 0x1000)) := by
  by_cases h1 : s.pc.toNat = 0xFFF
  · rw [fetch_second h1, h1]
    rfl
  · rw [fetch_first (by omega), Nat.max_eq_left (by omega)]

/-! ### The tick -/

theorem step_running {s : State} (h : s.runState = .running) : step s = phaseC (phaseB (phaseA s)) := by
  simp [step, tick, h]

theorem step_not_running {s : State} (h : s.runState ≠ .running) : step s = .next s := by
  cases hr : s.runState
  · exact absurd hr h
  · simp [step, tick, hr]
  · simp [step, tick, hr]

theorem dispatchWord_instr {op : Word} {i : Instr} (s : State) (h : decodeWord op = .instr i) : dispatchWord op s = exec i s := by
  simp [dispatchWord, h]

theorem dispatchWord_rejected {op : Word} {why : Reject} (s : State) (h : decodeWord op = .rejected why) :
    dispatchWord op s = .next (s.report op).advance := by
  simp [dispatchWord, h, rejectWord, unrecognised, hardware]

/-- Everything phase (c) can do: a fetch fault, an instruction, or an unrecognised opcode. -/
theorem phaseC_cases (s : State) :
    (0xFFE < s.pc.toNat ∧ phaseC s = .next (s.raise (.memOutOfRange (max s.pc.toNat 0x1000)))) ∨
    (s.pc.toNat ≤ 0xFFE ∧ ∃ op, op = joinBytes (s.mem.read s.pc.toNat) (s.mem.read (s.pc.toNat + 1)) ∧
      ((∃ i, decodeWord op = .instr i ∧ phaseC s = exec i s) ∨
       (∃ why, decodeWord op = .rejected why ∧ phaseC s = .next (s.report op).advance))) := by
  by_cases h : 0xFFE < s.pc.toNat
  · exact .inl ⟨h, by simp [phaseC, fetch_fatal h]⟩
  · have h' : s.pc.toNat ≤ 0xFFE := by omega
    refine .inr ⟨h', _, rfl, ?_⟩
    cases hd : decodeWord (joinBytes (s.mem.read s.pc.toNat) (s.mem.read (s.pc.toNat + 1))) with
    | instr i => exact .inl ⟨i, rfl, by simp only [phaseC, fetch_value h', dispatchWord_instr s hd]⟩
    | rejected why => exact .inr ⟨why, rfl, by simp only [phaseC, fetch_value h', dispatchWord_rejected s hd]⟩

/-! ### Several steps -/

theorem run_succ_of_next {M : Host.Core} {n : Nat} {s t : M.State} (h : M.step s = .next t) :
    Host.Core.run M (n + 1) s = Host.Core.run M n t := by
  simp only [Host.Core.run, h]

/-- A run whose first step answers `t` goes on from `t`. -/
theorem core_run_succ {n : Nat} {s t : State} (h : step s = .next t) :
    Host.Core.run Sys2Proof.core (n + 1) s = Host.Core.run Sys2Proof.core n t :=
  run_succ_of_next (M := Sys2Proof.core) h

/-! ### The host -/

@[simp] theorem resetCore_keys (s : State) : (resetCore s).keys = s.keys := rfl
@[simp] theorem resetCore_draws (s : State) : (resetCore s).draws = s.draws := rfl

theorem stopCore_running {s : State} (h : s.runState = .running) : stopCore s = s.setRun .stopped := by
  simp [stopCore, h]

theorem stopCore_ended {s : State} (h : s.runState ≠ .running) : stopCore s = s := by
  cases hr : s.runState
  · exact absurd hr h
  · simp [stopCore, hr]
  · simp [stopCore, hr]

end Sys2Proof.Machine
end

