-- ==== Sys2Proof/Tests/Slice0.lean ====
section
/-!
SUPPORT. The model's own tests. Expected results are those of spec/95_test_vectors.md (the vector is named in each comment: S1 to
S13, V-…), the worked examples of the instruction rules, or words written out bit by bit from the patterns of R104. Then one witness
for each statement that has hypotheses.
-/

set_option maxRecDepth 8000

namespace Sys2Proof.Tests

open Sys2Proof Sys2Proof.Machine

/-! ### Helpers -/

/-- A check of the next state. -/
def after (o : Result) (p : State → Bool) : Bool :=
  match o with
  | .next s => p s
  | .fault _ => false
  | .refused _ => false

/-- Phase (c) on a fetched word, which is what a single-instruction vector describes. -/
def did (op : Word) (s : State) : Result := dispatchWord op s

/-- The state after phase (c) on a fetched word. -/
def onward (op : Word) (s : State) : State :=
  match did op s with
  | .next t => t
  | .fault _ => s
  | .refused _ => s

/-- Registers set before a vector. -/
def regs (l : List (Reg × Byte)) (s : State) : State := l.foldl (fun t p => t.writeReg p.1 p.2) s

/-- Bytes placed before a vector. -/
def bytes (a : Nat) (bs : List Byte) (s : State) : State := s.setMem (s.mem.writeBytes a bs)

/-- Keys pressed before a vector. -/
def pressed (l : List KeyCode) (s : State) : State := l.foldl (fun t k => t.setKey k true) s

/-- A stack of 15 or 16 entries. -/
def deep (n : Nat) : List Word := List.replicate n 0x200#16

/-- The reset state, `pc = 0x200`. -/
def r0 : State := State.reset

/-- Cells that are set, and cells that are not. -/
def cells (s : State) (set blank : List (Fin 64 × Fin 32)) : Bool :=
  (set.all fun p => s.fb.cell p.1 p.2) && blank.all fun p => !(s.fb.cell p.1 p.2)

/-! ### Well-formedness refuses the ill-formed -/

theorem test_wf_class0 : [0x0000#16, 0x00E1#16, 0x00FE#16, 0x01E0#16, 0x0123#16].all (fun w => !recognised w) = true := by decide
theorem test_wf_class5 : (!recognised 0x5121#16 && !recognised 0x512F#16) = true := by decide
theorem test_wf_class8 : [0x8128#16, 0x812D#16, 0x812F#16].all (fun w => !recognised w) = true := by decide
theorem test_wf_class9 : recognised 0x9AB5#16 = false := by decide
theorem test_wf_classE : [0xE19F#16, 0xE1A0#16, 0xE000#16].all (fun w => !recognised w) = true := by decide
theorem test_wf_classF : [0xF100#16, 0xF10B#16, 0xF175#16, 0xF185#16, 0xF1FF#16].all (fun w => !recognised w) = true := by decide
theorem test_wf_accepts : (recognised 0x00EE#16 && recognised 0x812E#16 && recognised 0xF165#16) = true := by decide
theorem test_wf_image_font : Image.wf ⟨List.replicate 79 0#8, []⟩ = false := by decide
theorem test_wf_image_program : Image.wf ⟨conventionalFont, List.replicate 3585 0#8⟩ = false := by
  rw [Image.wf, List.length_replicate]
  decide
theorem test_wf_image_empty : Image.wf ⟨conventionalFont, []⟩ = true := by decide
/-- R113: the words on which a lenient decoder would differ, and some on which it would not. -/
theorem test_ambiguous : ([0x0000#16, 0x123E#16 &&& 0x0FFF#16, 0x5121#16, 0x9AB5#16].all decodeAmbiguous &&
    [0x00E0#16, 0x00EE#16, 0x00E1#16, 0x5120#16, 0x8128#16, 0xE19F#16].all (fun w => !decodeAmbiguous w)) = true := by decide

/-! ### Decoding: one word of each row, bit by bit from R104 -/

theorem test_decode_cls : decodeWord 0b0000000011100000#16 = .instr .cls := by decide
theorem test_decode_ret : decodeWord 0b0000000011101110#16 = .instr .ret := by decide
theorem test_decode_jp : decodeWord 0b0001101010111100#16 = .instr (.jp 0xABC#12) := by decide
theorem test_decode_call : decodeWord 0b0010001000001010#16 = .instr (.call 0x20A#12) := by decide
theorem test_decode_se : decodeWord 0b0011010101000010#16 = .instr (.se 5 0x42#8) := by decide
theorem test_decode_sne : decodeWord 0b0100010101000011#16 = .instr (.sne 5 0x43#8) := by decide
theorem test_decode_seReg : decodeWord 0b0101000100100000#16 = .instr (.seReg 1 2) := by decide
theorem test_decode_ld : decodeWord 0b0110101000000010#16 = .instr (.ld 10 0x02#8) := by decide
theorem test_decode_add : decodeWord 0b0111000111111111#16 = .instr (.add 1 0xFF#8) := by decide
theorem test_decode_ldReg : decodeWord 0b1000000100100000#16 = .instr (.ldReg 1 2) := by decide
theorem test_decode_or : decodeWord 0b1000000100100001#16 = .instr (.or 1 2) := by decide
theorem test_decode_and : decodeWord 0b1000000100100010#16 = .instr (.and 1 2) := by decide
theorem test_decode_xor : decodeWord 0b1000000100100011#16 = .instr (.xor 1 2) := by decide
theorem test_decode_addReg : decodeWord 0b1000111100100100#16 = .instr (.addReg 15 2) := by decide
theorem test_decode_sub : decodeWord 0b1000000100100101#16 = .instr (.sub 1 2) := by decide
theorem test_decode_shr : decodeWord 0b1000000100100110#16 = .instr (.shr 1 2) := by decide
theorem test_decode_subn : decodeWord 0b1000000100100111#16 = .instr (.subn 1 2) := by decide
theorem test_decode_shl : decodeWord 0b1000001101111110#16 = .instr (.shl 3 7) := by decide
theorem test_decode_sneReg : decodeWord 0b1001000100100000#16 = .instr (.sneReg 1 2) := by decide
theorem test_decode_ldI : decodeWord 0b1010111111111111#16 = .instr (.ldI 0xFFF#12) := by decide
theorem test_decode_jpV0 : decodeWord 0b1011001000110100#16 = .instr (.jpV0 0x234#12) := by decide
theorem test_decode_rnd : decodeWord 0b1100001100001111#16 = .instr (.rnd 3 0x0F#8) := by decide
theorem test_decode_drw : decodeWord 0b1101010110100011#16 = .instr (.drw 5 10 0x3#4) := by decide
theorem test_decode_skp : decodeWord 0b1110000110011110#16 = .instr (.skp 1) := by decide
theorem test_decode_sknp : decodeWord 0b1110000110100001#16 = .instr (.sknp 1) := by decide
theorem test_decode_ldVxDt : decodeWord 0b1111000100000111#16 = .instr (.ldVxDt 1) := by decide
theorem test_decode_ldVxK : decodeWord 0b1111001100001010#16 = .instr (.ldVxK 3) := by decide
theorem test_decode_ldDtVx : decodeWord 0b1111000000010101#16 = .instr (.ldDtVx 0) := by decide
theorem test_decode_ldStVx : decodeWord 0b1111001000011000#16 = .instr (.ldStVx 2) := by decide
theorem test_decode_addIVx : decodeWord 0b1111000100011110#16 = .instr (.addIVx 1) := by decide
theorem test_decode_ldFVx : decodeWord 0b1111101000101001#16 = .instr (.ldFVx 10) := by decide
theorem test_decode_ldBVx : decodeWord 0b1111000000110011#16 = .instr (.ldBVx 0) := by decide
theorem test_decode_storeRegs : decodeWord 0b1111001001010101#16 = .instr (.storeRegs 2) := by decide
theorem test_decode_loadRegs : decodeWord 0b1111001001100101#16 = .instr (.loadRegs 2) := by decide

/-- V-E7 to V-E13: every class that has unrecognised words rejects them under its own name; R115: one byte is no instruction. -/
theorem test_decode_rejects :
    decodeWord 0x0123#16 = .rejected .unrecognised0 ∧ decodeWord 0x5121#16 = .rejected .unrecognised5 ∧
    decodeWord 0x812D#16 = .rejected .unrecognised8 ∧ decodeWord 0x9AB5#16 = .rejected .unrecognised9 ∧
    decodeWord 0xE1A0#16 = .rejected .unrecognisedE ∧ decodeWord 0xF10B#16 = .rejected .unrecognisedF ∧
    decodeBytes [0x12#8] = .rejected .truncated := by decide

/-- V-E1: the byte at the lower address is the high one. -/
theorem test_decode_bytes : decodeBytes [0x12#8, 0x34#8, 0x99#8] = .instr (.jp 0x234#12, [0x99#8]) := by decide

theorem test_decode_tableWord : decodeTableWord 16 0x6A02 = some (.ld 10 0x02#8) ∧ decodeTableWord 16 0x0000 = none := by decide

/-! ### Control flow -/

/-- V-C6; V-C8. -/
theorem test_ret :
    after (did 0x00EE#16 ((r0.setPc 0x20C#16).setStack [0x204#16])) (fun t => t.pc == 0x206#16 && t.stack == []) &&
    after (did 0x00EE#16 (r0.setStack [0x310#16, 0x200#16])) (fun t => t.pc == 0x312#16 && t.stack == [0x200#16]) = true := by decide
/-- V-C7. -/
theorem test_ret_underflow : after (did 0x00EE#16 (r0.setPc 0x202#16))
    (fun t => t.runState == .faulted && t.faultCode == 2#2 && t.faultInfo == 0#16 && t.pc == 0x202#16 && t.stack == []) = true := by decide
/-- V-C1, V-C2. -/
theorem test_jp : after (did 0x1ABC#16 r0) (fun t => t.pc == 0xABC#16) && after (did 0x1FFF#16 r0) (fun t => t.pc == 0xFFF#16) = true := by
  decide
/-- V-C3, V-C5. -/
theorem test_call :
    after (did 0x220A#16 (r0.setPc 0x204#16)) (fun t => t.stack == [0x204#16] && t.pc == 0x20A#16) &&
    after (did 0x2400#16 ((r0.setPc 0x300#16).setStack (deep 15)))
      (fun t => t.stack == 0x300#16 :: deep 15 && t.pc == 0x400#16 && t.runState == .running) = true := by decide
/-- V-C4. -/
theorem test_call_overflow : after (did 0x2400#16 ((r0.setPc 0x300#16).setStack (deep 16)))
    (fun t => t.faultCode == 3#2 && t.faultInfo == 0#16 && t.pc == 0x300#16 && t.stack == deep 16 && t.runState == .faulted) = true := by
  decide
/-- V-C9, V-C10. -/
theorem test_se : after (did 0x3542#16 (regs [(5, 0x42#8)] r0)) (fun t => t.pc == 0x204#16) &&
    after (did 0x3543#16 (regs [(5, 0x42#8)] r0)) (fun t => t.pc == 0x202#16) = true := by decide
/-- V-C11. -/
theorem test_sne : after (did 0x4542#16 (regs [(5, 0x42#8)] r0)) (fun t => t.pc == 0x202#16) &&
    after (did 0x4543#16 (regs [(5, 0x42#8)] r0)) (fun t => t.pc == 0x204#16) = true := by decide
/-- V-C12, V-C13. -/
theorem test_seReg : after (did 0x5120#16 (regs [(1, 7#8), (2, 7#8)] r0)) (fun t => t.pc == 0x204#16) &&
    after (did 0x5120#16 (regs [(1, 7#8), (2, 8#8)] r0)) (fun t => t.pc == 0x202#16) = true := by decide
/-- V-C12, V-C13. -/
theorem test_sneReg : after (did 0x9120#16 (regs [(1, 7#8), (2, 7#8)] r0)) (fun t => t.pc == 0x202#16) &&
    after (did 0x9120#16 (regs [(1, 7#8), (2, 8#8)] r0)) (fun t => t.pc == 0x204#16) = true := by decide
/-- V-C16, V-C17. -/
theorem test_jpV0 : after (did 0xBFFF#16 (regs [(0, 0xFF#8)] r0)) (fun t => t.pc == 0x10FE#16) &&
    after (did 0xB234#16 (regs [(0, 0x10#8), (2, 0x99#8)] r0)) (fun t => t.pc == 0x244#16) = true := by decide

/-! ### Registers -/

/-- S1. -/
theorem test_ld : after (did 0x6A02#16 r0) (fun t => t.reg 10 == 0x02#8 && t.pc == 0x202#16) = true := by decide
/-- V-A3, V-A4. -/
theorem test_add : after (did 0x7101#16 (regs [(1, 0xFF#8)] r0)) (fun t => t.reg 1 == 0#8 && t.reg VF == 0#8) &&
    after (did 0x71FF#16 (regs [(1, 0x05#8)] r0)) (fun t => t.reg 1 == 0x04#8) = true := by decide
/-- V-A5. -/
theorem test_ldReg : after (did 0x8120#16 (regs [(2, 0x7B#8)] r0)) (fun t => t.reg 1 == 0x7B#8 && t.reg 2 == 0x7B#8) = true := by decide
/-- V-A6. -/
theorem test_or : after (did 0x8121#16 (regs [(1, 0xF0#8), (2, 0x0F#8), (15, 1#8)] r0))
    (fun t => t.reg 1 == 0xFF#8 && t.reg VF == 1#8) = true := by decide
/-- V-A7. -/
theorem test_and : after (did 0x8122#16 (regs [(1, 0xF3#8), (2, 0x3C#8), (15, 1#8)] r0))
    (fun t => t.reg 1 == 0x30#8 && t.reg VF == 1#8) = true := by decide
/-- V-A8, V-A9. -/
theorem test_xor : after (did 0x8123#16 (regs [(1, 0xFF#8), (2, 0x0F#8), (15, 1#8)] r0))
    (fun t => t.reg 1 == 0xF0#8 && t.reg VF == 1#8) && after (did 0x8443#16 (regs [(4, 0x5A#8)] r0)) (fun t => t.reg 4 == 0#8) = true := by
  decide
/-- S2, V-A11, V-A13. -/
theorem test_addReg : after (did 0x8124#16 (regs [(1, 0x7F#8), (2, 0x80#8)] r0)) (fun t => t.reg 1 == 0xFF#8 && t.reg VF == 0#8) &&
    after (did 0x8124#16 (regs [(1, 0xFF#8), (2, 0xFF#8)] r0)) (fun t => t.reg 1 == 0xFE#8 && t.reg VF == 1#8) &&
    after (did 0x8114#16 (regs [(1, 0x90#8)] r0)) (fun t => t.reg 1 == 0x20#8 && t.reg VF == 1#8) = true := by decide
/-- V-A14, V-A16: `VF` as the destination keeps the carry; as the source its old value is added. -/
theorem test_addReg_flag : after (did 0x8F24#16 (regs [(15, 0xF0#8), (2, 0x20#8)] r0)) (fun t => t.reg VF == 1#8) &&
    after (did 0x81F4#16 (regs [(1, 0xFF#8), (15, 1#8)] r0)) (fun t => t.reg 1 == 0#8 && t.reg VF == 1#8) = true := by decide
/-- S3. -/
theorem test_sub : after (did 0x8125#16 (regs [(1, 0x10#8), (2, 0x20#8)] r0)) (fun t => t.reg 1 == 0xF0#8 && t.reg VF == 0#8) &&
    after (did 0x8125#16 (regs [(1, 0x20#8), (2, 0x20#8)] r0)) (fun t => t.reg 1 == 0#8 && t.reg VF == 1#8) = true := by decide
/-- V-A19, V-A20. -/
theorem test_sub_flag : after (did 0x8F25#16 (regs [(15, 5#8), (2, 3#8)] r0)) (fun t => t.reg VF == 1#8) &&
    after (did 0x8F25#16 (regs [(15, 2#8), (2, 3#8)] r0)) (fun t => t.reg VF == 0#8) = true := by decide
/-- S4, V-A21. -/
theorem test_shr : after (did 0x8126#16 (regs [(1, 0x05#8)] r0)) (fun t => t.reg 1 == 0x02#8 && t.reg VF == 1#8) &&
    after (did 0x8126#16 (regs [(1, 0xFE#8), (2, 0xAA#8)] r0))
      (fun t => t.reg 1 == 0x7F#8 && t.reg VF == 0#8 && t.reg 2 == 0xAA#8) = true := by decide
/-- V-A23, V-A24. -/
theorem test_shr_flag : after (did 0x8F06#16 (regs [(15, 0xFF#8)] r0)) (fun t => t.reg VF == 0#8) &&
    after (did 0x8F06#16 (regs [(15, 0x02#8)] r0)) (fun t => t.reg VF == 0#8) = true := by decide
/-- S12, V-A25. -/
theorem test_subn : after (did 0x8127#16 (regs [(1, 0x10#8), (2, 0x30#8)] r0)) (fun t => t.reg 1 == 0x20#8 && t.reg VF == 1#8) &&
    after (did 0x8127#16 (regs [(1, 0x30#8), (2, 0x10#8)] r0)) (fun t => t.reg 1 == 0xE0#8 && t.reg VF == 0#8) = true := by decide
/-- V-A26, V-A27. -/
theorem test_subn_flag : after (did 0x8127#16 (regs [(1, 0x10#8), (2, 0x10#8)] r0)) (fun t => t.reg 1 == 0#8 && t.reg VF == 0#8) &&
    after (did 0x8F27#16 (regs [(15, 2#8), (2, 3#8)] r0)) (fun t => t.reg VF == 1#8) = true := by decide
/-- V-E14, V-A28. -/
theorem test_shl : after (did 0x837E#16 (regs [(3, 0x81#8), (7, 0x55#8)] r0))
      (fun t => t.reg 3 == 0x02#8 && t.reg VF == 1#8 && t.reg 7 == 0x55#8) &&
    after (did 0x810E#16 (regs [(1, 0x40#8)] r0)) (fun t => t.reg 1 == 0x80#8 && t.reg VF == 0#8) = true := by decide
/-- V-A30, V-A31. -/
theorem test_shl_flag : after (did 0x8F0E#16 (regs [(15, 0xFF#8)] r0)) (fun t => t.reg VF == 2#8) &&
    after (did 0x8F0E#16 (regs [(15, 0x7F#8)] r0)) (fun t => t.reg VF == 0#8) = true := by decide
/-- V-A32, V-A35: the byte supplied is 0xA7. -/
theorem test_rnd : (randomTo { hardware with rand := fun _ => 0xA7#8 } 3 0x0F#8 r0).reg 3 = 0x07#8 ∧
    (randomTo { hardware with rand := fun _ => 0xA7#8, rndMasked := false } 3 0x0F#8 r0).reg 3 = 0xA7#8 := by decide
/-- V-A33: with a mask of 0 the byte does not matter. -/
theorem test_rnd_zero : ∃ t, did 0xC300#16 r0 = .next t ∧ t.reg 3 = 0#8 := by
  refine ⟨_, rfl, ?_⟩
  show (assign 3 (Config.freeRand 0 &&& 0#8) r0).nextDraw.reg 3 = 0#8
  simp [assign]

/-! ### Index register and memory -/

/-- V-M1. -/
theorem test_ldI : after (did 0xAFFF#16 r0) (fun t => t.i == 0xFFF#16 && t.pc == 0x202#16) = true := by decide
/-- V-M3, V-M4. -/
theorem test_addIVx : after (did 0xF11E#16 ((regs [(1, 1#8)] r0).setI 0xFFF#16)) (fun t => t.i == 0x1000#16 && t.reg VF == 0#8) &&
    after (did 0xF11E#16 ((regs [(1, 2#8)] r0).setI 0xFFFF#16)) (fun t => t.i == 1#16 && t.reg VF == 0#8) = true := by decide
/-- S8, V-M6. -/
theorem test_ldFVx : after (did 0xFA29#16 (regs [(10, 0x0A#8)] r0)) (fun t => t.i == 0x82#16) &&
    after (did 0xF229#16 (regs [(2, 0xFF#8)] r0)) (fun t => t.i == 0x54B#16) = true := by decide
/-- S7, V-M8. -/
theorem test_ldBVx : after (did 0xF033#16 ((regs [(0, 234#8)] r0).setI 0x300#16))
      (fun t => t.mem == [(0x300, 2#8), (0x301, 3#8), (0x302, 4#8)]) &&
    after (did 0xF033#16 ((regs [(0, 123#8)] r0).setI 0xFFD#16))
      (fun t => t.mem == [(0xFFD, 1#8), (0xFFE, 2#8), (0xFFF, 3#8)] && t.runState == .running) = true := by decide
/-- V-M9, V-M10. -/
theorem test_ldBVx_fault : after (did 0xF033#16 (bytes 0xFFE [0xAA#8, 0xBB#8] ((regs [(0, 123#8)] r0).setI 0xFFE#16)))
      (fun t => t.mem == [(0xFFE, 0xAA#8), (0xFFF, 0xBB#8)] && t.pc == 0x200#16 && t.faultCode == 1#2 && t.faultInfo == 0x1000#16) &&
    after (did 0xF033#16 (r0.setI 0x1234#16)) (fun t => t.faultInfo == 0x1234#16) = true := by decide
/-- V-M11, V-M12. -/
theorem test_storeRegs : after (did 0xF255#16 ((regs [(0, 0x11#8), (1, 0x22#8), (2, 0x33#8), (3, 0x44#8)] r0).setI 0x400#16))
      (fun t => t.mem == [(0x400, 0x11#8), (0x401, 0x22#8), (0x402, 0x33#8)] && t.i == 0x400#16) &&
    after (did 0xF055#16 ((regs [(0, 0x77#8)] r0).setI 0xFFF#16)) (fun t => t.mem == [(0xFFF, 0x77#8)] && t.runState == .running) = true := by
  decide
/-- V-M13. -/
theorem test_storeRegs_fault : after (did 0xF155#16 (bytes 0xFFF [0xEE#8] (r0.setI 0xFFF#16)))
    (fun t => t.mem == [(0xFFF, 0xEE#8)] && t.faultCode == 1#2 && t.faultInfo == 0x1000#16) = true := by decide
/-- V-M16. -/
theorem test_loadRegs : after (did 0xF265#16 (bytes 0x300 [2#8, 3#8, 4#8] ((regs [(3, 0x99#8)] r0).setI 0x300#16)))
    (fun t => t.reg 0 == 2#8 && t.reg 1 == 3#8 && t.reg 2 == 4#8 && t.reg 3 == 0x99#8 && t.i == 0x300#16) = true := by decide
/-- V-M15, V-M18. -/
theorem test_loadRegs_fault : after (did 0xFF65#16 (r0.setI 0xFF1#16)) (fun t => t.faultInfo == 0x1000#16 && t.v == r0.v) &&
    after (did 0xF165#16 (r0.setI 0xFFFF#16)) (fun t => t.faultInfo == 0xFFFF#16 && t.v == r0.v) = true := by decide

/-! ### Display -/

/-- V-D1. -/
theorem test_cls : after (did 0x00E0#16 (regs [(15, 1#8)] (r0.setFb (r0.fb.setCell 7 9 true))))
    (fun t => cells t [] [(7, 9), (0, 0)] && t.redraw && t.reg VF == 1#8 && t.pc == 0x202#16) = true := by decide
/-- V-D2, V-D3: the two pixels wrap each on its own; drawn again they vanish with a collision. -/
theorem test_drw : after (did 0xD011#16 (bytes 0x300 [0xC0#8] ((regs [(0, 63#8), (1, 31#8)] r0).setI 0x300#16))) (fun t =>
      cells t [(63, 31), (0, 31)] [(62, 31), (1, 31), (0, 0), (63, 0)] && t.reg VF == 0#8 && t.redraw && t.pc == 0x202#16 &&
      after (did 0xD011#16 t) (fun u => cells u [] [(63, 31), (0, 31)] && u.reg VF == 1#8)) = true := by decide
/-- V-D7, V-D9, V-D11: no rows; out of range; `X` = `F`. -/
theorem test_drw_edges :
    after (did 0xD010#16 (regs [(15, 1#8)] (r0.setI 0xFFFF#16)))
      (fun t => cells t [] [(0, 0)] && t.reg VF == 0#8 && t.redraw && t.runState == .running) &&
    after (did 0xD013#16 (regs [(15, 1#8)] (r0.setI 0xFFE#16)))
      (fun t => t.faultInfo == 0x1000#16 && t.reg VF == 1#8 && !t.redraw && t.pc == 0x200#16) &&
    after (did 0xDF01#16 (bytes 0x300 [0x80#8] (regs [(15, 5#8)] (r0.setI 0x300#16))))
      (fun t => cells t [(5, 0)] [(0, 0), (4, 0), (6, 0), (5, 1)] && t.reg VF == 0#8) = true := by decide

/-! ### Keys and timers -/

/-- V-K1, V-K3. -/
theorem test_skp : after (did 0xE19E#16 (pressed [5] (regs [(1, 5#8)] r0))) (fun t => t.pc == 0x204#16) &&
    after (did 0xE19E#16 (pressed allKeys (regs [(1, 0x15#8)] r0))) (fun t => t.pc == 0x202#16) = true := by decide
/-- V-K2, V-K3. -/
theorem test_sknp : after (did 0xE1A1#16 (pressed [6] (regs [(1, 5#8)] r0))) (fun t => t.pc == 0x204#16) &&
    after (did 0xE1A1#16 (pressed allKeys (regs [(1, 0x15#8)] r0))) (fun t => t.pc == 0x204#16) = true := by decide
/-- V-K4. -/
theorem test_ldVxK_waits : did 0xF30A#16 (regs [(3, 0x99#8)] r0) = .next (regs [(3, 0x99#8)] r0) := rfl
/-- V-K5, V-K6: one key; two keys, under two choices. -/
theorem test_ldVxK :
    ((waitKey { hardware with keySelect := fun _ _ => 5 } 3 (pressed [7] r0)).reg 3 == 7#8 &&
    (waitKey { hardware with keySelect := fun _ _ => 0 } 3 (pressed [2, 9] r0)).reg 3 == 2#8 &&
    (waitKey { hardware with keySelect := fun _ _ => 1 } 3 (pressed [2, 9] r0)).reg 3 == 9#8) = true := by decide
/-- V-K7. -/
theorem test_ldVxDt : after (did 0xF107#16 (r0.setDt 0x2A#8)) (fun t => t.reg 1 == 0x2A#8 && t.dt == 0x2A#8) = true := by decide
/-- V-K8. -/
theorem test_ldDtVx : after (did 0xF015#16 (regs [(0, 3#8)] r0)) (fun t => t.dt == 3#8 && t.st == 0#8) = true := by decide
/-- V-K8. -/
theorem test_ldStVx : after (did 0xF018#16 (regs [(0, 3#8)] r0)) (fun t => t.st == 3#8 && t.dt == 0#8 && !t.toneOn) = true := by decide

/-! ### The tick -/

/-- V-T1, V-T2. -/
theorem test_tick_timers : after (step ((r0.setDt 2#8).withFetchWord 16 0xF107)) (fun t => t.dt == 1#8 && t.reg 1 == 1#8 && !t.toneOn) &&
    after (step (((r0.setSt 1#8).setTone true).withFetchWord 16 0x6000)) (fun t => t.dt == 0#8 && t.st == 0#8 && !t.toneOn) = true := by
  decide
/-- V-T3, first tick. -/
theorem test_tick_sound : after (step ((regs [(2, 2#8)] r0).withFetchWord 16 0xF218)) (fun t => t.st == 2#8 && !t.toneOn &&
    after (step (t.withFetchWord 16 0x6000)) (fun u => u.st == 1#8 && u.toneOn)) = true := by decide
/-- V-T4. -/
theorem test_tick_wait : after (step ((r0.setDt 5#8).withFetchWord 16 0xF30A)) (fun t => t.dt == 4#8 && t.pc == 0x200#16) = true := by decide
/-- V-T5 (and V-E3): the timers have moved, and further ticks do nothing. -/
theorem test_tick_fetch_fault : after (step ((r0.setDt 5#8).setPc 0xFFF#16)) (fun t =>
    t.dt == 4#8 && t.runState == .faulted && t.faultCode == 1#2 && t.faultInfo == 0x1000#16 && t.pc == 0xFFF#16 &&
    after (step t) (fun u => u.dt == 4#8)) = true := by decide
/-- V-E4, V-E5. -/
theorem test_tick_fetch_edges : after (step (r0.setPc 0x10FE#16)) (fun t => t.faultInfo == 0x10FE#16) &&
    after (step (bytes 0xFFE [0x60#8, 0x07#8] (r0.setPc 0xFFE#16))) (fun t => t.reg 0 == 7#8 && t.pc == 0x1000#16) = true := by decide
/-- V-T6. -/
theorem test_tick_stopped : step (stopCore (r0.setDt 9#8)) = .next (stopCore (r0.setDt 9#8)) := rfl
/-- V-E7: the empty memory at reset. -/
theorem test_tick_unrecognised : step r0 = .next ((r0.report 0x0000#16).setPc 0x202#16) := rfl
/-- P5, with an odd address (V-E6): the program's first two ticks. -/
theorem test_run : (match Host.Core.run Sys2Proof.core 2 (bytes 0x201 [0x6A#8, 0x02#8, 0x00#8, 0xEE#8] (r0.setPc 0x201#16)) with
    | .next t => t.reg 10 == 2#8 && t.pc == 0x203#16 && t.faultCode == 2#2
    | _ => false) = true := by decide

/-! ### The host -/

/-- R352: the first byte of glyph 0, the last of glyph F, and a program byte. -/
theorem test_launch : (match launch ⟨conventionalFont, [0x12#8, 0x00#8]⟩ with
    | some s => s.mem.read 0x50 == 0xF0#8 && s.mem.read 0x9F == 0x80#8 && s.mem.read 0x200 == 0x12#8 && s.pc == 0x200#16
    | none => false) = true := by decide
/-- R350: reset keeps the keys and clears a fault. -/
theorem test_reset : (onward 0x00EE#16 (pressed [3] r0)).runState = .faulted ∧
    resetCore (onward 0x00EE#16 (pressed [3] r0)) = pressed [3] r0 := ⟨rfl, rfl⟩
/-- R113: under a lenient configuration, which this hardware does not take, an ambiguous word is refused by name. -/
theorem test_lenient : (match rejectWord { hardware with strictDecode := false } 0x5121#16 r0 with
    | .refused (.decodeAmbiguous w) => w == 0x5121#16
    | _ => false) = true := by decide

/-! ### Witnesses: states and operands that meet the hypotheses of each statement -/

/-- EncodeOfDecodeIsTheWord. -/
theorem witness_decoded : decodeWord 0xDFF0#16 = .instr (.drw 15 15 0#4) := by decide

/-- DecodeFollowsTheOpcodeTable, both clauses. -/
theorem witness_table : (∃ row ∈ opcodeTable, 0xF165#16 &&& row.mask = row.pattern) ∧
    (∀ row ∈ opcodeTable, 0x5121#16 &&& row.mask ≠ row.pattern) := by decide

/-- StepRunsTheDecodedInstruction, at the last address from which a word can be fetched; ProgramCounterAfterEachInstruction,
UnrecognisedWordIsReportedAndSkipped with an empty memory. -/
theorem witness_step :
    (∃ s : State, s.runState = .running ∧ s.pc.toNat = 0xFFE ∧ decodeWord (wordAtPc s) = .instr (.ld 0 7#8)) ∧
    (∃ s : State, s.runState = .running ∧ s.pc.toNat ≤ 0xFFE ∧ decodeWord (wordAtPc s) = .rejected .unrecognised0) :=
  ⟨⟨bytes 0xFFE [0x60#8, 0x07#8] (r0.setPc 0xFFE#16), by decide⟩, ⟨r0, by decide⟩⟩

/-- FetchOutOfRangeFaults, on both sides of its distinction. -/
theorem witness_fetchFault : (∃ s : State, s.runState = .running ∧ 0xFFE < s.pc.toNat ∧ s.pc.toNat = 0xFFF) ∧
    (∃ s : State, s.runState = .running ∧ 0xFFE < s.pc.toNat ∧ s.pc.toNat ≠ 0xFFF) :=
  ⟨⟨r0.setPc 0xFFF#16, by decide⟩, ⟨r0.setPc 0x1000#16, by decide⟩⟩

/-- TickOutsideRunningChangesNothing, EndedMachineStaysForEveryTickCount, OnlyResetLeavesAnEndedState with both kinds of event. -/
theorem witness_ended : (∃ s : State, s.runState = .faulted) ∧ (∃ s : State, s.runState = .stopped) ∧
    Event.tick ≠ .host .reset ∧ Event.host .reset = .host .reset :=
  ⟨⟨r0.raise .stackUnderflow, rfl⟩, ⟨r0.setRun .stopped, rfl⟩, by decide, rfl⟩

/-- TimersCountDownEveryTick, its four clauses; ToneFollowsTheDecrementedSoundTimer. -/
theorem witness_timers : (∃ s : State, s.runState = .running ∧ (∀ x, decodeWord (wordAtPc s) ≠ .instr (.ldDtVx x)) ∧
      (∀ x, decodeWord (wordAtPc s) ≠ .instr (.ldStVx x))) ∧
    (∃ s : State, s.runState = .running ∧ 0xFFE < s.pc.toNat) ∧
    (∃ (s : State) (x : Reg), s.runState = .running ∧ decodeWord (wordAtPc s) = .instr (.ldDtVx x) ∧ s.pc.toNat ≤ 0xFFE) ∧
    (∃ (s : State) (x : Reg), s.runState = .running ∧ decodeWord (wordAtPc s) = .instr (.ldStVx x) ∧ s.pc.toNat ≤ 0xFFE) :=
  ⟨⟨r0, by decide⟩, ⟨r0.setPc 0xFFF#16, by decide⟩, ⟨r0.withFetchWord 16 0xFF15, 15, by decide⟩,
    ⟨r0.withFetchWord 16 0xF018, 0, by decide⟩⟩

/-- KeyWaitTickOnlyRunsTheTimers. -/
theorem witness_keyWaitTick : ∃ (s : State) (x : Reg), s.runState = .running ∧ s.pc.toNat ≤ 0xFFE ∧
    decodeWord (wordAtPc s) = .instr (.ldVxK x) ∧ ∀ k, s.keys.get k = false :=
  ⟨r0.withFetchWord 16 0xF30A, 3, by decide⟩

/-- InstructionsFaultExactlyAsTabled, ProgramCounterAfterEachInstruction and the fault-record clause of
OnlyTheTabledInstructionsChangeEachState: every condition at its boundary and just inside it. -/
theorem witness_faults :
    faultOf .ret r0 = some (2#2, 0) ∧ faultOf .ret (r0.setStack [0x204#16]) = none ∧
    faultOf (.call 0#12) (r0.setStack (deep 16)) = some (3#2, 0) ∧ faultOf (.call 0#12) (r0.setStack (deep 15)) = none ∧
    faultOf (.drw 0 0 2#4) (r0.setI 0xFFF#16) = some (1#2, 0x1000) ∧ faultOf (.drw 0 0 1#4) (r0.setI 0xFFF#16) = none ∧
    faultOf (.drw 0 0 0#4) (r0.setI 0xFFFF#16) = none ∧
    faultOf (.ldBVx 0) (r0.setI 0xFFE#16) = some (1#2, 0x1000) ∧ faultOf (.ldBVx 0) (r0.setI 0xFFD#16) = none ∧
    faultOf (.storeRegs 15) (r0.setI 0xFF1#16) = some (1#2, 0x1000) ∧ faultOf (.storeRegs 15) (r0.setI 0xFF0#16) = none ∧
    faultOf (.loadRegs 1) (r0.setI 0xFFFF#16) = some (1#2, 0xFFFF) ∧ faultOf (.loadRegs 0) (r0.setI 0xFFF#16) = none := by decide

/-- StepKeepsTheInvariant. -/
theorem witness_invariant : State.reset.Inv :=
  ⟨rfl, by decide, fun _ h => absurd h List.not_mem_nil, by decide, by decide, by decide, fun _ => rfl⟩

/-- ReachableStatesMeetTheInvariant: a state after a tick, a key and a reset. -/
theorem witness_reachable : ∃ s, Reachable ⟨conventionalFont, [0x12#8, 0x00#8]⟩ s :=
  ⟨_, _, [.tick, .host (.setKey 3 true), .host .reset], rfl, rfl⟩

/-- OnlyTheTabledInstructionsChangeEachState: a register that is not written, and each piece of state changed by some instruction. -/
theorem witness_changes : 3 ∉ registersWritten (.addReg 2 3) ∧
    (after (exec (.ldI 0x300#12) r0) (fun t => t.i != r0.i) && after (exec (.ldDtVx 0) (regs [(0, 1#8)] r0)) (fun t => t.dt != r0.dt) &&
    after (exec (.ldStVx 0) (regs [(0, 1#8)] r0)) (fun t => t.st != r0.st) &&
    after (exec (.call 0x300#12) r0) (fun t => t.stack != r0.stack) &&
    after (exec (.storeRegs 0) (regs [(0, 1#8)] r0)) (fun t => t.mem != r0.mem) &&
    after (exec .cls r0) (fun t => t.redraw != r0.redraw) &&
    after (exec (.ldVxK 0) (pressed [3] r0)) (fun t => t.draws != r0.draws)) = true := by decide

/-- InstructionsReadOnlyTheTabledRegisters: the states differ, and agree on what is read. -/
theorem witness_readOnly : ∃ (i : Instr) (s : State) (v : Vector Byte 16), v ≠ s.v ∧ registersRead i ≠ [] ∧
    ∀ r ∈ registersRead i, ({ s with v := v } : State).reg r = s.reg r :=
  ⟨.addReg 1 2, r0, (regs [(3, 9#8)] r0).v, by decide⟩

/-- OtherInstructionsIgnoreKeysAndDraws. -/
theorem witness_other : ∃ i : Instr, (∀ x nn, i ≠ .rnd x nn) ∧ (∀ x, i ≠ .skp x) ∧ (∀ x, i ≠ .sknp x) ∧ (∀ x, i ≠ .ldVxK x) :=
  ⟨.cls, nofun, nofun, nofun, nofun⟩

/-- CallPushesItsOwnAddress, CallThenReturnRestoresTheCaller, ReturnResumesAfterTheCall, at the boundary depths. -/
theorem witness_stack : (∃ s : State, s.stack.length = 15 ∧ s.stack.length ≠ 16) ∧ (∃ s : State, s.stack.length = 16) ∧
    (∃ s : State, s.stack = []) ∧ (∃ s : State, s.stack = [0xFFE#16]) ∧
    (∃ s t u : State, s.stack.length ≠ 16 ∧ exec (.call 0x300#12) s = .next t ∧ u.stack = t.stack) :=
  ⟨⟨r0.setStack (deep 15), by decide⟩, ⟨r0.setStack (deep 16), by decide⟩, ⟨r0, rfl⟩, ⟨r0.setStack [0xFFE#16], rfl⟩,
    ⟨r0, _, (r0.setStack [0x200#16]).setDt 3#8, by decide, rfl, rfl⟩⟩

/-- AddRegistersSetsTheCarry, SubtractionsSetTheirFlags, ShiftsCaptureTheLostBit, DrawingTwiceRestoresTheScreen: both kinds of destination;
RandomByteIsMasked: a mask bit that is 0. -/
theorem witness_destination : (∃ x : Reg, x ≠ VF) ∧ (∃ x : Reg, x = VF) ∧ (0x0F#8).getLsbD 7 = false := ⟨⟨14, by decide⟩, ⟨VF, rfl⟩, by decide⟩

/-- DecimalStoreWritesThreeDigits, BlockStoreWritesTheRegisters, BlockLoadReadsTheRegisters, BlockStoreThenLoadRestores: the last place
that fits and the first that does not. -/
theorem witness_transfers :
    (∃ s : State, s.mem.wf = true ∧ s.mem ≠ [] ∧ s.i.toNat = 0xFFD) ∧ (∃ s : State, s.mem.wf = true ∧ s.i.toNat = 0xFFE) ∧
    (∃ (s : State) (x : Reg), s.mem.wf = true ∧ s.i.toNat + x.val = 0xFFF) ∧ (∃ (s : State) (x : Reg), s.i.toNat + x.val = 0x1000) :=
  ⟨⟨bytes 0x300 [1#8] (r0.setI 0xFFD#16), by decide⟩, ⟨r0.setI 0xFFE#16, by decide⟩, ⟨r0.setI 0xFF0#16, 15, by decide⟩,
    ⟨r0.setI 0xFFF#16, 1, by decide⟩⟩

/-- BlockStoreThenLoadRestores: a later state with the same memory and index and other registers. -/
theorem witness_storeThenLoad : ∃ s t u : State, s.mem.wf = true ∧ s.i.toNat + (1 : Reg).val ≤ 0xFFF ∧ exec (.storeRegs 1) s = .next t ∧
    u.mem = t.mem ∧ u.i = t.i ∧ u.reg 0 ≠ t.reg 0 :=
  ⟨(regs [(0, 7#8)] r0).setI 0x300#16, _, onward 0x6000#16 (onward 0xF155#16 ((regs [(0, 7#8)] r0).setI 0x300#16)), by decide, by decide,
    rfl, by decide, by decide, by decide⟩

/-- StoredWordIsFetchedByTheNextTick (P6). -/
theorem witness_selfModifying : ∃ s : State, s.mem.wf = true ∧ s.runState = .running ∧ 1 ≤ (1 : Reg).val ∧ s.i.toNat + (1 : Reg).val ≤ 0xFFF ∧
    s.i = s.pc + 2#16 ∧ decodeWord (joinBytes (s.reg 0) (s.reg 1)) = .instr (.ld 2 0xAB#8) :=
  ⟨((regs [(0, 0x62#8), (1, 0xAB#8)] r0).setPc 0x206#16).setI 0x208#16, by decide⟩

/-- MemoryAccessIsCheckedAndLocal: the last address that exists and the first that does not. -/
theorem witness_addresses : (∃ m : Memory, m.wf = true ∧ m ≠ []) ∧ 0xFFF ≤ 0xFFF ∧ 0xFFF < 0x1000 :=
  ⟨⟨[(0xFFF, 1#8)], by decide⟩, by decide, by decide⟩

/-- DrawTogglesExactlyTheSpriteCells and DrawingTwiceRestoresTheScreen: no rows with `I` out of range, the last place that fits, the
first that does not; a cell that is drawn on and set; target cells that are blank. -/
theorem witness_draw :
    (∃ (s : State) (n : BitVec 4), n.toNat = 0 ∧ s.i.toNat = 0xFFFF) ∧
    (∃ (s : State) (n : BitVec 4), 0 < n.toNat ∧ s.i.toNat + n.toNat - 1 = 0xFFF) ∧
    (∃ (s : State) (n : BitVec 4), 0 < n.toNat ∧ s.i.toNat + n.toNat - 1 = 0x1000) ∧
    (∃ s : State, DrawsOn s (s.reg 0) (s.reg 1) 1 63 31 ∧ s.fb.cell 63 31 = true) ∧
    (∃ s : State, DrawsOn s (s.reg 0) (s.reg 1) 1 63 31 ∧ ∀ cx cy, s.fb.cell cx cy = false) :=
  ⟨⟨r0.setI 0xFFFF#16, 0#4, by decide⟩, ⟨r0.setI 0xFFF#16, 1#4, by decide⟩, ⟨r0.setI 0xFFF#16, 2#4, by decide⟩,
    ⟨bytes 0x300 [0x80#8] (((regs [(0, 63#8), (1, 31#8)] r0).setI 0x300#16).setFb (r0.fb.setCell 63 31 true)),
      ⟨0, 0, by decide⟩, by decide⟩,
    ⟨bytes 0x300 [0x80#8] ((regs [(0, 63#8), (1, 31#8)] r0).setI 0x300#16), ⟨0, 0, by decide⟩, Framebuffer.cell_blank⟩⟩

/-- KeySkipsAreOpposite, KeyWaitStoresAPressedKey, KeyChoiceIsOpenAmongThePressed: a pressed key, a released one, a code that names none. -/
theorem witness_keys : (∃ (s : State) (x : Reg), Pressed s (s.reg x)) ∧ (∃ (s : State) (x : Reg), ¬ Pressed s (s.reg x)) ∧
    (∃ (s : State) (x : Reg), (∀ k, s.keys.get k = true) ∧ ¬ Pressed s (s.reg x)) ∧
    (∃ s : State, ∀ k, s.keys.get k = false) ∧ (∃ s : State, s.keys.get 2 = true ∧ s.keys.get 9 = true) :=
  ⟨⟨pressed [5] (regs [(1, 5#8)] r0), 1, 5, by decide⟩, ⟨r0, 1, by rw [Pressed]; decide⟩,
    ⟨pressed allKeys (regs [(1, 0x10#8)] r0), 1, by rw [Pressed]; decide⟩, ⟨r0, by decide⟩, ⟨pressed [2, 9] r0, by decide⟩⟩

/-- DelayTimerTransfers: FX07 at the program counter; FX15 there, with a different instruction after it. SoundTimerSoundsOneTickLater. -/
theorem witness_delayTimer : (∃ s : State, s.runState = .running ∧ s.pc.toNat ≤ 0xFFE ∧ decodeWord (wordAtPc s) = .instr (.ldVxDt 1)) ∧
    (∃ s t : State, s.runState = .running ∧ s.pc.toNat ≤ 0xFFE ∧ decodeWord (wordAtPc s) = .instr (.ldDtVx 0) ∧ step s = .next t ∧
      ∀ y, decodeWord (wordAtPc t) ≠ .instr (.ldDtVx y)) :=
  ⟨⟨r0.withFetchWord 16 0xF107, by decide⟩, ⟨r0.withFetchWord 16 0xF015, _, by decide, by decide, by decide, rfl, by decide⟩⟩

/-- LaunchFillsTheFontAndTheProgram and OnlyImagesThatFitCanBeLaunched, at the limits. -/
theorem witness_images : (∃ img : Image, img.font.length = 80 ∧ img.program.length = 0) ∧
    (∃ img : Image, img.font.length = 80 ∧ img.program.length = 3584) ∧ (∃ img : Image, ¬ (img.font.length = 80 ∧ img.program.length ≤ 3584)) :=
  ⟨⟨⟨conventionalFont, []⟩, by decide⟩, ⟨⟨conventionalFont, List.replicate 3584 1#8⟩, by decide, List.length_replicate⟩,
    ⟨⟨conventionalFont, List.replicate 3585 1#8⟩, by rw [List.length_replicate]; decide⟩⟩

/-- HostActionsChangeOnlyTheirOwnState: another key, and a machine that runs and one that does not. -/
theorem witness_host : (∃ k l : KeyCode, l ≠ k) ∧ (∃ s : State, s.runState = .running) ∧ (∃ s : State, s.runState ≠ .running) :=
  ⟨⟨3, 4, by decide⟩, ⟨r0, rfl⟩, ⟨r0.raise .stackOverflow, by decide⟩⟩

/-- ParametersTakeTheirOtherValues, its five clauses. -/
theorem witness_parameters : (∃ c : Config, c.rndMasked = false ∧ c.keywaitBlocks = false ∧ c.unrecognizedAdvances = false ∧
    c.stackDepth = none ∧ c.strictDecode = false) ∧ (∀ k, r0.keys.get k = false) ∧ decodeAmbiguous 0x0000#16 = true :=
  ⟨⟨⟨none, false, false, false, false, Config.freeRand, Config.freeKeySelect⟩, by decide⟩, by decide, by decide⟩

end Sys2Proof.Tests
end

