-- ==== Sys2Proof/Proofs/ControlFlow.lean ====
section
/-!
PROOFS. Control flow (spec/40_control_flow.md): the jump and the four comparing skips. Each writes `pc` and nothing else, so the
frame is proved once for `setPc`, and the two outcomes of a skip once for `skipIf`.
-/

namespace Sys2Proof.Machine

/-! ### The updates of `pc` -/

/-- The zero extension keeps the address (R114). -/
@[simp] theorem toNat_zextAddress (nnn : BitVec 12) : (zextAddress nnn).toNat = nnn.toNat :=
  BitVec.toNat_setWidth_of_le (by decide)

theorem State.onlyChanges_setPc (s : State) (a : Word) : OnlyChanges s (s.setPc a) [.pc] := by
  intro c hc
  cases c
  case pc => exact absurd (List.mem_singleton_self _) hc
  all_goals rfl

theorem State.onlyChanges_skipIf (s : State) (c : Bool) : OnlyChanges s (s.skipIf c) [.pc] :=
  s.onlyChanges_setPc _

/-- The new `pc` of a skip, by the proposition that its condition tests. -/
theorem State.skipIf_pc_of_iff (s : State) {c : Bool} {p : Prop} [Decidable p] (h : c = true ↔ p) :
    (s.skipIf c).pc = if p then s.pc + 4#16 else s.pc + 2#16 := by
  by_cases hp : p
  · rw [if_pos hp, State.skipIf_pc, if_pos (h.2 hp)]
  · rw [if_neg hp, State.skipIf_pc, if_neg (mt h.1 hp)]

/-! ### The meanings -/

theorem exec_jp (nnn : BitVec 12) (s : State) : exec (.jp nnn) s = .next (s.setPc (zextAddress nnn)) := rfl

theorem exec_se (x : Reg) (nn : Byte) (s : State) : exec (.se x nn) s = .next (s.skipIf (s.reg x == nn)) := rfl

theorem exec_sne (x : Reg) (nn : Byte) (s : State) : exec (.sne x nn) s = .next (s.skipIf (s.reg x != nn)) := rfl

theorem exec_seReg (x y : Reg) (s : State) : exec (.seReg x y) s = .next (s.skipIf (s.reg x == s.reg y)) := rfl

theorem exec_sneReg (x y : Reg) (s : State) : exec (.sneReg x y) s = .next (s.skipIf (s.reg x != s.reg y)) := rfl

/-- What an instruction does whose meaning is a skip on a condition that tests `p`. -/
theorem exec_skips {i : Instr} {s : State} {c : Bool} {p : Prop} [Decidable p]
    (hexec : exec i s = .next (s.skipIf c)) (h : c = true ↔ p) :
    ∃ t, exec i s = .next t ∧ (t.pc = if p then s.pc + 4#16 else s.pc + 2#16) ∧ OnlyChanges s t [.pc] :=
  ⟨s.skipIf c, hexec, s.skipIf_pc_of_iff h, s.onlyChanges_skipIf c⟩

/-! ### The statements -/

/-- Settles O25: the meaning is one write of `pc`. -/
theorem jumpReplacesTheProgramCounter : Obligations.JumpReplacesTheProgramCounter := fun nnn s =>
  ⟨formatNNN_and_mask _ _, s.setPc (zextAddress nnn), exec_jp nnn s, toNat_zextAddress nnn, s.onlyChanges_setPc _⟩

/-- Settles O30: each of the four is a skip on its comparison. -/
theorem comparingSkips : Obligations.ComparingSkips := by
  refine ⟨fun x nn s => ⟨?_, ?_⟩, fun x nn s => ⟨?_, ?_⟩, fun x y s => ⟨?_, ?_⟩, fun x y s => ⟨?_, ?_⟩⟩
  · exact formatXNN_and_class _ _ _
  · exact exec_skips (exec_se x nn s) beq_iff_eq
  · exact formatXNN_and_class _ _ _
  · exact exec_skips (exec_sne x nn s) bne_iff_ne
  · exact formatXYN_and_nibble _ _ _ _
  · exact exec_skips (exec_seReg x y s) beq_iff_eq
  · exact formatXYN_and_nibble _ _ _ _
  · exact exec_skips (exec_sneReg x y s) bne_iff_ne

end Sys2Proof.Machine
end

