-- ==== Sys2Proof/Proofs/Alu.lean ====
section
/-!
PROOFS. The plain register results (spec/41_alu.md section 2): each meaning is one `assign`, so its value, its `pc` and its frame
are proved once for `assign`.
-/

namespace Sys2Proof.Machine

/-! ### The plain result -/

theorem reg_assign_same (x : Reg) (b : Byte) (s : State) : (assign x b s).reg x = b :=
  s.reg_writeReg_same x b

theorem assign_pc (x : Reg) (b : Byte) (s : State) : (assign x b s).pc = s.pc + 2#16 := rfl

theorem onlyChanges_assign (x : Reg) (b : Byte) (s : State) : OnlyChanges s (assign x b s) [.reg x, .pc] := by
  intro c hc
  cases c
  case reg q =>
    have hq : q ≠ x := by
      rintro rfl
      exact hc List.mem_cons_self
    exact s.reg_writeReg_ne hq b
  case pc => exact absurd (List.mem_cons_of_mem _ List.mem_cons_self) hc
  all_goals rfl

/-! ### The meanings -/

theorem exec_ld (x : Reg) (nn : Byte) (s : State) : exec (.ld x nn) s = .next (assign x nn s) := rfl

theorem exec_add (x : Reg) (nn : Byte) (s : State) : exec (.add x nn) s = .next (assign x (s.reg x + nn) s) := rfl

theorem exec_ldReg (x y : Reg) (s : State) : exec (.ldReg x y) s = .next (assign x (s.reg y) s) := rfl

/-- What an instruction does whose meaning is a plain result in `x`, for any property `P` of the byte assigned. -/
theorem exec_assigns {i : Instr} {x : Reg} {b : Byte} {s : State} {P : Byte → Prop}
    (hexec : exec i s = .next (assign x b s)) (hb : P b) :
    ∃ t, exec i s = .next t ∧ P (t.reg x) ∧ t.pc = s.pc + 2#16 ∧ OnlyChanges s t [.reg x, .pc] :=
  ⟨assign x b s, hexec, (reg_assign_same x b s).symm ▸ hb, assign_pc x b s, onlyChanges_assign x b s⟩

/-! ### The statement -/

/-- Settles O31: each of the three is a plain result, and the sum of two bytes is the one modulo 256. -/
theorem registerLoadsAndAddImmediate : Obligations.RegisterLoadsAndAddImmediate := by
  refine ⟨fun x nn s => ⟨?_, ?_⟩, fun x nn s => ⟨?_, ?_⟩, fun x y s => ⟨?_, ?_⟩⟩
  · exact formatXNN_and_class _ _ _
  · exact exec_assigns (P := (· = nn)) (exec_ld x nn s) rfl
  · exact formatXNN_and_class _ _ _
  · exact exec_assigns (P := (·.toNat = ((s.reg x).toNat + nn.toNat) % 256)) (exec_add x nn s) (BitVec.toNat_add _ _)
  · exact formatXYN_and_nibble _ _ _ _
  · exact exec_assigns (P := (· = s.reg y)) (exec_ldReg x y s) rfl

end Sys2Proof.Machine
end

