-- ==== Sys2Proof/Proofs/IndexMemory.lean ====
section
/-!
PROOFS. The index register (spec/42_index_memory.md section 2): a load of `I` is one `setI` and the advance, whose frame is proved
once for any address.
-/

namespace Sys2Proof.Machine

theorem State.onlyChanges_setI_advance (s : State) (a : Word) : OnlyChanges s (s.setI a).advance [.index, .pc] := by
  intro c hc
  cases c
  case index => exact absurd List.mem_cons_self hc
  case pc => exact absurd (List.mem_cons_of_mem _ List.mem_cons_self) hc
  all_goals rfl

theorem exec_ldI (nnn : BitVec 12) (s : State) : exec (.ldI nnn) s = .next (s.setI (zextAddress nnn)).advance := rfl

/-- Settles O37: `I` is the zero-extended address, and the two fields written are the whole frame. -/
theorem loadIndexImmediate : Obligations.LoadIndexImmediate := fun nnn s =>
  ⟨formatNNN_and_mask _ _, (s.setI (zextAddress nnn)).advance, exec_ldI nnn s, toNat_zextAddress nnn, rfl,
    s.onlyChanges_setI_advance _⟩

end Sys2Proof.Machine
end

