-- ==== Sys2Proof/Proofs/Display.lean ====
section
/-!
PROOFS. The framebuffer (spec/43_display.md): clearing it is one write of `fb`, one of `redraw` and the advance, whose frame is
proved once for any framebuffer and any value of `redraw`.
-/

namespace Sys2Proof.Machine

theorem State.onlyChanges_setFb_setRedraw_advance (s : State) (f : Framebuffer) (b : Bool) :
    OnlyChanges s ((s.setFb f).setRedraw b).advance [.fb, .redraw, .pc] := by
  intro c hc
  cases c
  case fb | redraw | pc => simp at hc
  all_goals rfl

theorem exec_cls (s : State) : exec .cls s = .next ((s.setFb Framebuffer.blank).setRedraw true).advance := rfl

/-- Settles O45: the framebuffer written is the blank one, and the three fields written are the whole frame. -/
theorem clearScreenBlanksEveryCell : Obligations.ClearScreenBlanksEveryCell :=
  ⟨rfl, fun s => ⟨((s.setFb Framebuffer.blank).setRedraw true).advance, exec_cls s, Framebuffer.cell_blank, rfl, rfl,
    s.onlyChanges_setFb_setRedraw_advance _ _⟩⟩

end Sys2Proof.Machine
end

