-- ==== Sys2Proof/Proofs/KeysTimers.lean ====
section
/-!
PROOFS. The delay timer (spec/44_keys_timers.md section 3, spec/60_exceptions.md R320). FX07 is a plain result and FX15 one write of
`dt`, both on the state the timers have counted down; FX15 is the only instruction that writes `dt`, so every other tick leaves it
counted down.
-/

namespace Sys2Proof.Machine

/-! ### The write of `dt` -/

theorem State.onlyChanges_setDt_advance (s : State) (b : Byte) : OnlyChanges s (s.setDt b).advance [.dt, .pc] := by
  intro c hc
  cases c
  case dt | pc => simp at hc
  all_goals rfl

theorem exec_ldVxDt (x : Reg) (s : State) : exec (.ldVxDt x) s = .next (assign x s.dt s) := rfl

theorem exec_ldDtVx (x : Reg) (s : State) : exec (.ldDtVx x) s = .next (s.setDt (s.reg x)).advance := rfl

/-! ### What leaves `dt` alone -/

theorem State.guarded_dt {s done : State} (addrs : List Nat) (h : done.dt = s.dt) : (s.guarded addrs done).dt = s.dt := by
  unfold State.guarded
  split
  · rfl
  · exact h

theorem loadInto_dt (rs : List Reg) (s : State) : (loadInto rs s).dt = s.dt := by
  obtain ⟨v, hv⟩ := loadInto_frame rs s
  rw [hv]

theorem returnFrom_dt (s : State) : (returnFrom s).dt = s.dt := by
  unfold returnFrom
  split <;> rfl

theorem callTo_dt (c : Config) (target : Word) (s : State) : (callTo c target s).dt = s.dt := by
  unfold callTo
  split <;> rfl

theorem waitKey_dt (x : Reg) (s : State) : (waitKey hardware x s).dt = s.dt := by
  cases h : s.pressedKeys with
  | nil => rw [waitKey_none x h]
  | cons k ks => rw [waitKey_some hardware x h]; rfl

/-- Every instruction answers a next state, and only FX15 writes `dt` (R22). -/
theorem exec_next_dt (i : Instr) (s : State) : ∃ t, exec i s = .next t ∧ ((∀ x, i ≠ .ldDtVx x) → t.dt = s.dt) := by
  cases i
  case ldDtVx x => exact ⟨_, rfl, fun h => absurd rfl (h x)⟩
  case ret => exact ⟨_, rfl, fun _ => returnFrom_dt s⟩
  case call => exact ⟨_, rfl, fun _ => callTo_dt _ _ s⟩
  case ldVxK x => exact ⟨_, rfl, fun _ => waitKey_dt x s⟩
  case drw | ldBVx | storeRegs => exact ⟨_, rfl, fun _ => State.guarded_dt _ rfl⟩
  case loadRegs x => exact ⟨_, rfl, fun _ => State.guarded_dt _ (loadInto_dt (regsUpTo x) s)⟩
  all_goals exact ⟨_, rfl, fun _ => rfl⟩

/-! ### The tick -/

/-- A running machine executes the instruction at `pc` once the timers and the tone are done (R320). -/
theorem step_eq_exec {s : State} {i : Instr} (hrun : s.runState = .running) (hpc : s.pc.toNat ≤ 0xFFE)
    (hdec : decodeWord (wordAtPc s) = .instr i) : step s = exec i (phaseB (phaseA s)) := by
  have hfetch : fetch (phaseB (phaseA s)) = .value (wordAtPc s) := fetch_value hpc
  rw [step_running hrun, phaseC, hfetch]
  exact dispatchWord_instr _ hdec

/-- A tick of a running machine answers a next state and counts `dt` down, unless FX15 was at `pc` (R321). -/
theorem step_next_dt {s : State} (hrun : s.runState = .running) :
    ∃ u, step s = .next u ∧ ((∀ x, decodeWord (wordAtPc s) ≠ .instr (.ldDtVx x)) → u.dt.toNat = s.dt.toNat - 1) := by
  have hcount : (phaseB (phaseA s)).dt.toNat = s.dt.toNat - 1 := toNat_countDown s.dt
  rw [step_running hrun]
  obtain ⟨-, hfault⟩ | ⟨-, _, rfl, ⟨i, hdec, hexec⟩ | ⟨_, -, hreject⟩⟩ := phaseC_cases (phaseB (phaseA s))
  · exact ⟨_, hfault, fun _ => hcount⟩
  · obtain ⟨u, hu, hdt⟩ := exec_next_dt i (phaseB (phaseA s))
    refine ⟨u, hexec.trans hu, fun hno => ?_⟩
    rw [hdt fun x hx => hno x (hx ▸ hdec), hcount]
  · exact ⟨_, hreject, fun _ => hcount⟩

/-! ### The statement -/

/-- Settles O51: FX07 assigns the counted-down `dt`; FX15 writes `dt` after its own tick's countdown, so the tick after it, unless
it holds FX15 again, is the first to count the value down. -/
theorem delayTimerTransfers : Obligations.DelayTimerTransfers := by
  refine ⟨fun x s => ⟨?_, ?_, fun hrun hpc hdec => ?_⟩, fun x s => ⟨?_, ?_, fun hrun hpc hdec => ?_⟩⟩
  · exact formatXNN_and_low _ _ _
  · exact exec_assigns (P := (· = s.dt)) (exec_ldVxDt x s) rfl
  · refine ⟨_, (step_eq_exec hrun hpc hdec).trans (exec_ldVxDt x _), ?_⟩
    rw [reg_assign_same]
    exact toNat_countDown s.dt
  · exact formatXNN_and_low _ _ _
  · exact ⟨_, exec_ldDtVx x s, rfl, rfl, s.onlyChanges_setDt_advance _⟩
  · obtain ⟨u, hu, hdt⟩ := step_next_dt (s := ((phaseB (phaseA s)).setDt (s.reg x)).advance) hrun
    exact ⟨_, u, (step_eq_exec hrun hpc hdec).trans (exec_ldDtVx x _), rfl, hu, hdt⟩

end Sys2Proof.Machine
end

