-- ==== Sys2Proof/Proofs/Reset.lean ====
section
/-!
PROOFS. The launch state (spec/70_reset_and_hazards.md R352): the loader writes two disjoint regions over the zero memory of reset, so
what a byte of it reads as is said once, by region, for every image that fits.
-/

namespace Sys2Proof

theorem Image.wf_iff (img : Image) : img.wf = true ↔ img.font.length = 80 ∧ img.program.length ≤ 3584 := by
  rw [Image.wf, Bool.and_eq_true, beq_iff_eq, decide_eq_true_iff, fontLength, maxProgramLength]

end Sys2Proof

namespace Sys2Proof.Machine

/-- An image that fits has a launch state, the reset state with the loader's memory. -/
theorem launch_of_wf {img : Image} (h : img.wf = true) :
    launch img = some (State.reset.setMem (loadImage img State.reset.mem)) :=
  if_pos h

/-- A byte of the loaded memory, by region: the program, the font, or the 0 of reset (R352). -/
theorem read_loadImage_reset {img : Image} (h : img.wf = true) (a : Nat) :
    (loadImage img State.reset.mem).read a =
      if 0x200 ≤ a ∧ a < 0x200 + img.program.length then img.program.getD (a - 0x200) 0#8
      else if 0x050 ≤ a ∧ a < 0x0A0 then img.font.getD (a - 0x050) 0#8
      else 0#8 := by
  obtain ⟨hfont, hprogram⟩ := img.wf_iff.1 h
  have hfontFits : 0x050 + img.font.length ≤ lastAddress + 1 := by rw [hfont]; decide
  have hprogramFits : 0x200 + img.program.length ≤ lastAddress + 1 := Nat.add_le_add_left hprogram 0x200
  have hfontMem : (State.reset.mem.writeBytes 0x050 img.font).wf = true := Memory.writeBytes_wf rfl _ _ hfontFits
  calc (loadImage img State.reset.mem).read a
    _ = if 0x200 ≤ a ∧ a < 0x200 + img.program.length then img.program.getD (a - 0x200) 0#8
        else (State.reset.mem.writeBytes 0x050 img.font).read a := Memory.read_writeBytes hfontMem _ _ hprogramFits a
    _ = _ := by rw [Memory.read_writeBytes rfl _ _ hfontFits, hfont]; rfl

/-- Settles O54: each clause is the reading of the loaded memory in its region, and the loader writes memory only. -/
theorem launchFillsTheFontAndTheProgram : Obligations.LaunchFillsTheFontAndTheProgram := by
  intro img hfont hprogram
  have hwf : img.wf = true := img.wf_iff.2 ⟨hfont, hprogram⟩
  have hread := read_loadImage_reset hwf
  refine ⟨_, launch_of_wf hwf, fun j hj => ?font, fun j hj => ?program, fun a hnotFont hnotProgram => ?elsewhere, rfl, _, rfl⟩
  case font =>
    rw [State.setMem_mem, hread, if_neg (by omega), if_pos (by omega), Nat.add_sub_cancel_left]
  case program =>
    rw [State.setMem_mem, hread, if_pos (by omega), Nat.add_sub_cancel_left]
  case elsewhere =>
    rw [State.setMem_mem, hread, if_neg hnotProgram, if_neg hnotFont]

end Sys2Proof.Machine
end

section
/-!
PROOFS. Encoding (spec/30_encoding.md): `decodeWord` and `encode` are inverse to each other on the recognised words, so the opcode
table, which accepts the word of every instruction under its mask, describes the decoder. The rejected words are read off the
sub-lookup of each class.
-/

namespace Sys2Proof

/-! ### Decoding after encoding -/

theorem decodeWord_encode (i : Instr) : decodeWord (encode i) = .instr i := by
  cases i
  case cls | ret => decide
  all_goals simp [encode, decodeWord, decodeClass8, decodeClassE, decodeClassF]

/-- Settles O1: the word of an instruction decodes to it, and the two bytes of a word join to that word again. -/
theorem decodeOfEncodeIsTheInstruction : Obligations.DecodeOfEncodeIsTheInstruction := fun i rest =>
  ⟨decodeWord_encode i, by simp only [decodeBytes, joinBytes_highByte_lowByte, decodeWord_encode]⟩

/-! ### Encoding after decoding -/

/-- A word of format `NNN` from its class and its address. -/
theorem formatNNN_of_class {op : Word} {k : Nat} (h : (fieldClass op).toNat = k) :
    formatNNN (BitVec.ofNat 4 k) (fieldNNN op) = op := by
  rw [← eq_ofNat_of_toNat_eq h, formatNNN_fields]

/-- A word of format `XNN` from its class, its register and its byte. -/
theorem formatXNN_of_class {op : Word} {k : Nat} (h : (fieldClass op).toNat = k) :
    formatXNN (BitVec.ofNat 4 k) (fieldX op) (fieldNN op) = op := by
  rw [← eq_ofNat_of_toNat_eq h, formatXNN_fields]

/-- A word of format `X` from its class, its register and its fixed byte. -/
theorem formatXNN_of_class_of_low {op : Word} {k l : Nat} (h : (fieldClass op).toNat = k) (hl : (fieldNN op).toNat = l) :
    formatXNN (BitVec.ofNat 4 k) (fieldX op) (BitVec.ofNat 8 l) = op := by
  rw [← eq_ofNat_of_toNat_eq hl, formatXNN_of_class h]

/-- A word of format `XYN` from its class, its registers and its nibble. -/
theorem formatXYN_of_class {op : Word} {k : Nat} (h : (fieldClass op).toNat = k) :
    formatXYN (BitVec.ofNat 4 k) (fieldX op) (fieldY op) (fieldN op) = op := by
  rw [← eq_ofNat_of_toNat_eq h, formatXYN_fields]

/-- A word of format `XY` from its class, its registers and its fixed nibble. -/
theorem formatXYN_of_class_of_nibble {op : Word} {k l : Nat} (h : (fieldClass op).toNat = k) (hl : (fieldN op).toNat = l) :
    formatXYN (BitVec.ofNat 4 k) (fieldX op) (fieldY op) (BitVec.ofNat 4 l) = op := by
  rw [← eq_ofNat_of_toNat_eq hl, formatXYN_of_class h]

theorem encode_of_decodeClass0 {op : Word} {i : Instr} (h : decodeClass0 op = .instr i) : encode i = op := by
  unfold decodeClass0 at h
  split at h
  case isTrue hop => cases h; exact hop.symm
  case isFalse =>
    split at h
    case isTrue hop => cases h; exact hop.symm
    case isFalse => cases h

theorem encode_of_decodeClass8 {op : Word} {i : Instr} (hc : (fieldClass op).toNat = 0x8) (h : decodeClass8 op = .instr i) :
    encode i = op := by
  unfold decodeClass8 at h
  split at h <;> cases h <;> exact formatXYN_of_class_of_nibble hc ‹_›

theorem encode_of_decodeClassE {op : Word} {i : Instr} (hc : (fieldClass op).toNat = 0xE) (h : decodeClassE op = .instr i) :
    encode i = op := by
  unfold decodeClassE at h
  split at h <;> cases h <;> exact formatXNN_of_class_of_low hc ‹_›

theorem encode_of_decodeClassF {op : Word} {i : Instr} (hc : (fieldClass op).toNat = 0xF) (h : decodeClassF op = .instr i) :
    encode i = op := by
  unfold decodeClassF at h
  split at h <;> cases h <;> exact formatXNN_of_class_of_low hc ‹_›

/-- The classes 5 and 9 fix the low nibble. -/
theorem encode_of_nibble_zero {op : Word} {i j : Instr} {why : Reject}
    (h : (if fieldN op = 0 then Decoded.instr j else .rejected why) = .instr i) (hj : (fieldN op).toNat = 0 → encode j = op) :
    encode i = op := by
  split at h
  case isTrue hn => cases h; exact hj (congrArg BitVec.toNat hn)
  case isFalse => cases h

theorem encode_of_decodeWord {op : Word} {i : Instr} (h : decodeWord op = .instr i) : encode i = op := by
  unfold decodeWord at h
  split at h
  case h_1 => exact encode_of_decodeClass0 h
  case h_6 hc => exact encode_of_nibble_zero h fun hn => formatXYN_of_class_of_nibble hc hn
  case h_9 hc => exact encode_of_decodeClass8 hc h
  case h_10 hc => exact encode_of_nibble_zero h fun hn => formatXYN_of_class_of_nibble hc hn
  case h_15 hc => exact encode_of_decodeClassE hc h
  case h_16 =>
    have := (fieldClass op).isLt
    exact encode_of_decodeClassF (by grind) h
  case h_2 hc | h_3 hc | h_11 hc | h_12 hc => cases h; exact formatNNN_of_class hc
  case h_4 hc | h_5 hc | h_7 hc | h_8 hc | h_13 hc => cases h; exact formatXNN_of_class hc
  case h_14 hc => cases h; exact formatXYN_of_class hc

/-- The decoder reads exactly the words of the encoder. -/
theorem decodeWord_eq_instr_iff {op : Word} {i : Instr} : decodeWord op = .instr i ↔ encode i = op :=
  ⟨encode_of_decodeWord, fun h => h ▸ decodeWord_encode i⟩

/-- Settles O2: each arm of the decoder fixes the fields that the encoder writes. -/
theorem encodeOfDecodeIsTheWord : Obligations.EncodeOfDecodeIsTheWord := fun _ _ => encode_of_decodeWord

/-! ### The opcode table -/

/-- Every instruction's word is accepted by its own row of the table. -/
theorem encode_accepted (i : Instr) : Laws.EncodingRow.Statement i := by
  cases i
  case cls => exact Laws.EncodingRow.cls
  case ret => exact Laws.EncodingRow.ret
  case jp => exact Laws.EncodingRow.jp _
  case call => exact Laws.EncodingRow.call _
  case se => exact Laws.EncodingRow.se _ _
  case sne => exact Laws.EncodingRow.sne _ _
  case seReg => exact Laws.EncodingRow.seReg _ _
  case ld => exact Laws.EncodingRow.ld _ _
  case add => exact Laws.EncodingRow.add _ _
  case ldReg => exact Laws.EncodingRow.ldReg _ _
  case or => exact Laws.EncodingRow.or _ _
  case and => exact Laws.EncodingRow.and _ _
  case xor => exact Laws.EncodingRow.xor _ _
  case addReg => exact Laws.EncodingRow.addReg _ _
  case sub => exact Laws.EncodingRow.sub _ _
  case shr => exact Laws.EncodingRow.shr _ _
  case subn => exact Laws.EncodingRow.subn _ _
  case shl => exact Laws.EncodingRow.shl _ _
  case sneReg => exact Laws.EncodingRow.sneReg _ _
  case ldI => exact Laws.EncodingRow.ldI _
  case jpV0 => exact Laws.EncodingRow.jpV0 _
  case rnd => exact Laws.EncodingRow.rnd _ _
  case drw => exact Laws.EncodingRow.drw _ _ _
  case skp => exact Laws.EncodingRow.skp _
  case sknp => exact Laws.EncodingRow.sknp _
  case ldVxDt => exact Laws.EncodingRow.ldVxDt _
  case ldVxK => exact Laws.EncodingRow.ldVxK _
  case ldDtVx => exact Laws.EncodingRow.ldDtVx _
  case ldStVx => exact Laws.EncodingRow.ldStVx _
  case addIVx => exact Laws.EncodingRow.addIVx _
  case ldFVx => exact Laws.EncodingRow.ldFVx _
  case ldBVx => exact Laws.EncodingRow.ldBVx _
  case storeRegs => exact Laws.EncodingRow.storeRegs _
  case loadRegs => exact Laws.EncodingRow.loadRegs _

/-- The words a row accepts are words of instructions with the row's mnemonic. -/
def OpcodeRow.Encodes (row : OpcodeRow) : Prop :=
  ∀ op : Word, op &&& row.mask = row.pattern → ∃ i, encode i = op ∧ mnemonicOf i = row.mnemonic

/-- A row that fixes every bit. -/
theorem encodes_of_word {name : String} {p : Word} (i : Instr) (hi : encode i = p) (hname : mnemonicOf i = name) :
    OpcodeRow.Encodes ⟨name, 0xFFFF#16, p⟩ := fun _ h =>
  ⟨i, hi.trans (h.symm.trans BitVec.and_allOnes), hname⟩

/-- A row of format `NNN`, which fixes the class. -/
theorem encodes_of_formatNNN {name : String} (c : BitVec 4) (i : BitVec 12 → Instr) (hi : ∀ a, encode (i a) = formatNNN c a)
    (hname : ∀ a, mnemonicOf (i a) = name) : OpcodeRow.Encodes ⟨name, 0xF000#16, formatNNN c 0#12⟩ := by
  intro op h
  have hc : fieldClass op = c := by
    rw [← formatNNN_fields op, formatNNN_and_mask] at h
    simpa using congrArg fieldClass h
  exact ⟨i (fieldNNN op), by rw [hi, ← hc, formatNNN_fields], hname _⟩

/-- A row of format `XNN`, which fixes the class. -/
theorem encodes_of_formatXNN {name : String} (c : BitVec 4) (i : Reg → Byte → Instr) (hi : ∀ x b, encode (i x b) = formatXNN c x b)
    (hname : ∀ x b, mnemonicOf (i x b) = name) : OpcodeRow.Encodes ⟨name, 0xF000#16, formatXNN c 0 0#8⟩ := by
  intro op h
  have hc : fieldClass op = c := by
    rw [← formatXNN_fields op, formatXNN_and_class] at h
    simpa using congrArg fieldClass h
  exact ⟨i (fieldX op) (fieldNN op), by rw [hi, ← hc, formatXNN_fields], hname _ _⟩

/-- A row of format `X`, which fixes the class and the low byte. -/
theorem encodes_of_formatX {name : String} (c : BitVec 4) (b : Byte) (i : Reg → Instr) (hi : ∀ x, encode (i x) = formatXNN c x b)
    (hname : ∀ x, mnemonicOf (i x) = name) : OpcodeRow.Encodes ⟨name, 0xF0FF#16, formatXNN c 0 b⟩ := by
  intro op h
  rw [← formatXNN_fields op, formatXNN_and_low] at h
  have hc : fieldClass op = c := by simpa using congrArg fieldClass h
  have hb : fieldNN op = b := by simpa using congrArg fieldNN h
  exact ⟨i (fieldX op), by rw [hi, ← hc, ← hb, formatXNN_fields], hname _⟩

/-- A row of format `XYN`, which fixes the class. -/
theorem encodes_of_formatXYN {name : String} (c : BitVec 4) (i : Reg → Reg → BitVec 4 → Instr)
    (hi : ∀ x y n, encode (i x y n) = formatXYN c x y n) (hname : ∀ x y n, mnemonicOf (i x y n) = name) :
    OpcodeRow.Encodes ⟨name, 0xF000#16, formatXNN c 0 0#8⟩ := by
  intro op h
  have hc : fieldClass op = c := by
    rw [← formatXNN_fields op, formatXNN_and_class] at h
    simpa using congrArg fieldClass h
  exact ⟨i (fieldX op) (fieldY op) (fieldN op), by rw [hi, ← hc, formatXYN_fields], hname _ _ _⟩

/-- A row of format `XY`, which fixes the class and the low nibble. -/
theorem encodes_of_formatXY {name : String} (c n : BitVec 4) (i : Reg → Reg → Instr) (hi : ∀ x y, encode (i x y) = formatXYN c x y n)
    (hname : ∀ x y, mnemonicOf (i x y) = name) : OpcodeRow.Encodes ⟨name, 0xF00F#16, formatXYN c 0 0 n⟩ := by
  intro op h
  rw [← formatXYN_fields op, formatXYN_and_nibble] at h
  have hc : fieldClass op = c := by simpa using congrArg fieldClass h
  have hn : fieldN op = n := by simpa using congrArg fieldN h
  exact ⟨i (fieldX op) (fieldY op), by rw [hi, ← hc, ← hn, formatXYN_fields], hname _ _⟩

theorem opcodeRowsLow_encode : ∀ row ∈ opcodeRowsLow, row.Encodes := by
  simp only [opcodeRowsLow, List.forall_mem_cons]
  refine ⟨encodes_of_word .cls rfl rfl, encodes_of_word .ret rfl rfl, ?_, ?_, ?_, ?_, ?_, ?_, ?_, nofun⟩
  · exact encodes_of_formatNNN 0x1#4 .jp (fun _ => rfl) fun _ => rfl
  · exact encodes_of_formatNNN 0x2#4 .call (fun _ => rfl) fun _ => rfl
  · exact encodes_of_formatXNN 0x3#4 .se (fun _ _ => rfl) fun _ _ => rfl
  · exact encodes_of_formatXNN 0x4#4 .sne (fun _ _ => rfl) fun _ _ => rfl
  · exact encodes_of_formatXY 0x5#4 0x0#4 .seReg (fun _ _ => rfl) fun _ _ => rfl
  · exact encodes_of_formatXNN 0x6#4 .ld (fun _ _ => rfl) fun _ _ => rfl
  · exact encodes_of_formatXNN 0x7#4 .add (fun _ _ => rfl) fun _ _ => rfl

theorem opcodeRowsAlu_encode : ∀ row ∈ opcodeRowsAlu, row.Encodes := by
  simp only [opcodeRowsAlu, List.forall_mem_cons]
  refine ⟨?_, ?_, ?_, ?_, ?_, ?_, ?_, ?_, ?_, nofun⟩
  · exact encodes_of_formatXY 0x8#4 0x0#4 .ldReg (fun _ _ => rfl) fun _ _ => rfl
  · exact encodes_of_formatXY 0x8#4 0x1#4 .or (fun _ _ => rfl) fun _ _ => rfl
  · exact encodes_of_formatXY 0x8#4 0x2#4 .and (fun _ _ => rfl) fun _ _ => rfl
  · exact encodes_of_formatXY 0x8#4 0x3#4 .xor (fun _ _ => rfl) fun _ _ => rfl
  · exact encodes_of_formatXY 0x8#4 0x4#4 .addReg (fun _ _ => rfl) fun _ _ => rfl
  · exact encodes_of_formatXY 0x8#4 0x5#4 .sub (fun _ _ => rfl) fun _ _ => rfl
  · exact encodes_of_formatXY 0x8#4 0x6#4 .shr (fun _ _ => rfl) fun _ _ => rfl
  · exact encodes_of_formatXY 0x8#4 0x7#4 .subn (fun _ _ => rfl) fun _ _ => rfl
  · exact encodes_of_formatXY 0x8#4 0xE#4 .shl (fun _ _ => rfl) fun _ _ => rfl

theorem opcodeRowsHigh_encode : ∀ row ∈ opcodeRowsHigh, row.Encodes := by
  simp only [opcodeRowsHigh, List.forall_mem_cons]
  refine ⟨?_, ?_, ?_, ?_, ?_, ?_, ?_, nofun⟩
  · exact encodes_of_formatXY 0x9#4 0x0#4 .sneReg (fun _ _ => rfl) fun _ _ => rfl
  · exact encodes_of_formatNNN 0xA#4 .ldI (fun _ => rfl) fun _ => rfl
  · exact encodes_of_formatNNN 0xB#4 .jpV0 (fun _ => rfl) fun _ => rfl
  · exact encodes_of_formatXNN 0xC#4 .rnd (fun _ _ => rfl) fun _ _ => rfl
  · exact encodes_of_formatXYN 0xD#4 .drw (fun _ _ _ => rfl) fun _ _ _ => rfl
  · exact encodes_of_formatX 0xE#4 0x9E#8 .skp (fun _ => rfl) fun _ => rfl
  · exact encodes_of_formatX 0xE#4 0xA1#8 .sknp (fun _ => rfl) fun _ => rfl

theorem opcodeRowsF_encode : ∀ row ∈ opcodeRowsF, row.Encodes := by
  simp only [opcodeRowsF, List.forall_mem_cons]
  refine ⟨?_, ?_, ?_, ?_, ?_, ?_, ?_, ?_, ?_, nofun⟩
  · exact encodes_of_formatX 0xF#4 0x07#8 .ldVxDt (fun _ => rfl) fun _ => rfl
  · exact encodes_of_formatX 0xF#4 0x0A#8 .ldVxK (fun _ => rfl) fun _ => rfl
  · exact encodes_of_formatX 0xF#4 0x15#8 .ldDtVx (fun _ => rfl) fun _ => rfl
  · exact encodes_of_formatX 0xF#4 0x18#8 .ldStVx (fun _ => rfl) fun _ => rfl
  · exact encodes_of_formatX 0xF#4 0x1E#8 .addIVx (fun _ => rfl) fun _ => rfl
  · exact encodes_of_formatX 0xF#4 0x29#8 .ldFVx (fun _ => rfl) fun _ => rfl
  · exact encodes_of_formatX 0xF#4 0x33#8 .ldBVx (fun _ => rfl) fun _ => rfl
  · exact encodes_of_formatX 0xF#4 0x55#8 .storeRegs (fun _ => rfl) fun _ => rfl
  · exact encodes_of_formatX 0xF#4 0x65#8 .loadRegs (fun _ => rfl) fun _ => rfl

theorem opcodeTable_encode {row : OpcodeRow} (h : row ∈ opcodeTable) : row.Encodes := by
  simp only [opcodeTable, List.mem_append] at h
  obtain ((h | h) | h) | h := h
  · exact opcodeRowsLow_encode row h
  · exact opcodeRowsAlu_encode row h
  · exact opcodeRowsHigh_encode row h
  · exact opcodeRowsF_encode row h

/-- Settles O3: a row accepts only words of instructions of its own, and an instruction's word is accepted by its row. -/
theorem decodeFollowsTheOpcodeTable : Obligations.DecodeFollowsTheOpcodeTable := by
  refine ⟨fun op row hrow hop => ?_, fun op hno => ?_⟩
  · obtain ⟨i, hi, hname⟩ := opcodeTable_encode hrow op hop
    exact ⟨i, decodeWord_eq_instr_iff.2 hi, hname⟩
  · cases hdec : decodeWord op with
    | rejected why => exact ⟨why, rfl⟩
    | instr i =>
      obtain ⟨row, hrow, -, hmask⟩ := encode_accepted i
      exact absurd (encode_of_decodeWord hdec ▸ hmask) (hno row hrow)

/-- Settles O5: the table is a literal list. -/
theorem opcodeTableRowsAreDisjoint : Obligations.OpcodeTableRowsAreDisjoint := by
  unfold Obligations.OpcodeTableRowsAreDisjoint
  decide

/-- Settles O6: the eight words are literals. -/
theorem sampleWordsDecode : Obligations.SampleWordsDecode := by
  unfold Obligations.SampleWordsDecode
  decide

/-! ### The rejected words -/

theorem toNat_fieldClass (op : Word) : (fieldClass op).toNat = op.toNat / 0x1000 := by
  rw [fieldClass, BitVec.extractLsb'_toNat, Nat.shiftRight_eq_div_pow]
  exact Nat.mod_eq_of_lt (Nat.div_lt_of_lt_mul op.isLt)

theorem toNat_fieldN (op : Word) : (fieldN op).toNat = op.toNat % 0x10 := by
  simp [fieldN]

theorem toNat_fieldNN (op : Word) : (fieldNN op).toNat = op.toNat % 0x100 := by
  simp [fieldNN]

/-- The word or the bytes read were no instruction. -/
def Decoded.Rejected {α : Type} (d : Decoded α) : Prop := ∃ why, d = .rejected why

@[simp] theorem Decoded.not_rejected_instr {α : Type} (a : α) : ¬ (Decoded.instr a).Rejected := nofun

@[simp] theorem Decoded.rejected_rejected {α : Type} (why : Reject) : (Decoded.rejected why : Decoded α).Rejected := ⟨why, rfl⟩

theorem decodeClass0_rejected_iff (op : Word) : (decodeClass0 op).Rejected ↔ op ≠ 0x00E0#16 ∧ op ≠ 0x00EE#16 := by
  unfold decodeClass0
  split
  case isTrue h => simp [h]
  case isFalse h => split <;> simp [*]

/-- The classes 5 and 9 reject every low nibble but 0. -/
theorem nibble_rejected_iff (op : Word) (i : Instr) (why : Reject) :
    (if fieldN op = 0#4 then Decoded.instr i else .rejected why).Rejected ↔ op.toNat % 0x10 ≠ 0 := by
  have hzero : fieldN op = 0#4 ↔ op.toNat % 0x10 = 0 := by rw [← BitVec.toNat_inj, toNat_fieldN]; rfl
  by_cases h : fieldN op = 0#4
  · simp [h, hzero.1 h]
  · simp [h, mt hzero.2 h]

theorem decodeClass8_rejected_iff (op : Word) :
    (decodeClass8 op).Rejected ↔ op.toNat % 0x10 ∈ [0x8, 0x9, 0xA, 0xB, 0xC, 0xD, 0xF] := by
  have hlt : (fieldN op).toNat < 16 := (fieldN op).isLt
  rw [← toNat_fieldN]
  unfold decodeClass8
  split <;> simp [*]
  grind

theorem decodeClassE_rejected_iff (op : Word) : (decodeClassE op).Rejected ↔ op.toNat % 0x100 ∉ [0x9E, 0xA1] := by
  rw [← toNat_fieldNN]
  unfold decodeClassE
  split <;> simp [*]
  grind

theorem decodeClassF_rejected_iff (op : Word) :
    (decodeClassF op).Rejected ↔ op.toNat % 0x100 ∉ [0x07, 0x0A, 0x15, 0x18, 0x1E, 0x29, 0x33, 0x55, 0x65] := by
  rw [← toNat_fieldNN]
  unfold decodeClassF
  split <;> simp [*]
  grind

/-- Settles O4: the class selects the sub-lookup, whose rejected words are known. -/
theorem rejectedWordsAreTheUnrecognisedSet : Obligations.RejectedWordsAreTheUnrecognisedSet := by
  intro op
  have hlt : (fieldClass op).toNat < 16 := (fieldClass op).isLt
  change (decodeWord op).Rejected ↔ _
  rw [← toNat_fieldClass]
  unfold decodeWord
  split
  case h_16 =>
    have hF : (fieldClass op).toNat = 0xF := by grind
    simp [hF, decodeClassF_rejected_iff]
  all_goals
    rename_i hc
    simp [hc, decodeClass0_rejected_iff, nibble_rejected_iff, decodeClass8_rejected_iff, decodeClassE_rejected_iff]

end Sys2Proof
end

section
/-!
PROOFS. What an instruction does, said once: the frame of each shared operation, the state an instruction leaves when it raises
nothing (`effect`), and that `exec` answers either that state or the fault entry of the tables (`exec_cases`).
-/

namespace Sys2Proof.Machine

/-! ### The frames of the shared operations -/

theorem OnlyChanges.refl (s : State) (cs : List Component) : OnlyChanges s s cs := by
  intro c _
  cases c <;> rfl

theorem State.onlyChanges_raise (s : State) (f : Fatal) : OnlyChanges s (s.raise f) faultRecord := by
  intro c hc
  cases c
  case runState | faultCode | faultInfo => simp [faultRecord] at hc
  all_goals rfl

theorem State.faultEntry_raise (s : State) (f : Fatal) : FaultEntry s (s.raise f) f.code f.info.toNat :=
  ⟨rfl, rfl, rfl, s.onlyChanges_raise f⟩

theorem State.onlyChanges_setStack_setPc (s : State) (l : List Word) (a : Word) :
    OnlyChanges s ((s.setStack l).setPc a) [.stack, .pc] := by
  intro c hc
  cases c
  case stack | pc => simp at hc
  all_goals rfl

theorem State.onlyChanges_setSt_advance (s : State) (b : Byte) : OnlyChanges s (s.setSt b).advance [.st, .pc] := by
  intro c hc
  cases c
  case st | pc => simp at hc
  all_goals rfl

theorem onlyChanges_assignThenFlag (x : Reg) (b flag : Byte) (s : State) :
    OnlyChanges s (assignThenFlag x b flag s) [.reg x, .reg VF, .pc] := by
  intro c hc
  cases c
  case reg q =>
    obtain ⟨hx, hflag⟩ : q ≠ x ∧ q ≠ VF := by simpa using hc
    exact (reg_assignThenFlag x b flag s q).trans (by rw [if_neg hflag, if_neg hx])
  case pc => simp at hc
  all_goals rfl

theorem onlyChanges_flagThenShift (x : Reg) (flag : Byte) (shift : Byte → Byte) (s : State) :
    OnlyChanges s (flagThenShift x flag shift s) [.reg x, .reg VF, .pc] := by
  intro c hc
  cases c
  case reg q =>
    obtain ⟨hx, hflag⟩ : q ≠ x ∧ q ≠ VF := by simpa using hc
    exact (reg_flagThenShift x flag shift s q).trans (by rw [if_neg hx, if_neg hflag])
  case pc => simp at hc
  all_goals rfl

theorem onlyChanges_assign_nextDraw (x : Reg) (b : Byte) (s : State) :
    OnlyChanges s (assign x b s).nextDraw [.reg x, .pc, .draws] := by
  intro c hc
  cases c
  case reg q => exact s.reg_writeReg_ne (by simpa using hc) b
  case pc | draws => simp at hc
  all_goals rfl

theorem onlyChanges_waitKey (x : Reg) (s : State) : OnlyChanges s (waitKey hardware x s) [.reg x, .pc, .draws] := by
  cases h : s.pressedKeys with
  | nil =>
    rw [waitKey_none x h]
    exact OnlyChanges.refl s _
  | cons k ks =>
    rw [waitKey_some hardware x h]
    exact onlyChanges_assign_nextDraw _ _ _

theorem onlyChanges_loadInto_advance (rs : List Reg) (s : State) :
    OnlyChanges s (loadInto rs s).advance (.pc :: rs.map .reg) := by
  intro c hc
  obtain ⟨v, hv⟩ := loadInto_frame rs s
  cases c
  case reg q => exact (reg_loadInto rs s q).trans (if_neg (by simpa using hc))
  case pc => simp at hc
  all_goals
    rw [hv]
    rfl

/-- The state after a store that fits. -/
def stored (bs : List Byte) (s : State) : State := (s.setMem (s.mem.writeBytes s.i.toNat bs)).advance

/-- The bytes of a store that fits are where they were put, every other byte is as before (R62, R206). -/
theorem read_stored {s : State} {bs : List Byte} (hwf : s.mem.wf = true) (hfits : s.i.toNat + bs.length ≤ 0x1000) (a : Nat) :
    (stored bs s).mem.read a =
      if s.i.toNat ≤ a ∧ a < s.i.toNat + bs.length then bs.getD (a - s.i.toNat) 0#8 else s.mem.read a :=
  Memory.read_writeBytes hwf _ _ hfits a

theorem onlyChanges_stored {s : State} {bs : List Byte} (hwf : s.mem.wf = true) (hfits : s.i.toNat + bs.length ≤ 0x1000) :
    OnlyChanges s (stored bs s) (.pc :: (List.range bs.length).map fun k => .byte (s.i.toNat + k)) := by
  intro c hc
  cases c
  case byte a =>
    have hout : ¬ (s.i.toNat ≤ a ∧ a < s.i.toNat + bs.length) := fun ⟨hlo, hhi⟩ =>
      hc (List.mem_cons_of_mem _ (List.mem_map.2 ⟨a - s.i.toNat, List.mem_range.2 (by omega), by rw [Nat.add_sub_cancel' hlo]⟩))
    exact (read_stored hwf hfits a).trans (if_neg hout)
  case pc => simp at hc
  all_goals rfl

/-- The canvas a draw at `I` leaves. -/
def State.canvas (s : State) (x0 y0 : Byte) (n : Nat) : Canvas :=
  drawSprite s.fb x0.toNat y0.toNat (s.bytesAt (accessList s.i.toNat n))

/-- The state after a draw whose canvas is `k`. -/
def drawn (k : Canvas) (s : State) : State := (((s.setFlag (flagByte k.hit)).setFb k.fb).setRedraw true).advance

theorem onlyChanges_drawn (k : Canvas) (s : State) : OnlyChanges s (drawn k s) [.fb, .reg VF, .redraw, .pc] := by
  intro c hc
  cases c
  case reg q => exact s.reg_setFlag_ne (by simpa using hc) _
  case fb | redraw | pc => simp at hc
  all_goals rfl

/-! ### The state an instruction leaves -/

/-- The state an instruction leaves when it raises no fatal condition. -/
def effect (i : Instr) (s : State) : State :=
  match i with
  | .cls => ((s.setFb Framebuffer.blank).setRedraw true).advance
  | .ret => (s.setStack s.stack.tail).setPc (s.stack.headD 0#16 + 2#16)
  | .jp nnn => s.setPc (zextAddress nnn)
  | .call nnn => (s.push s.pc).setPc (zextAddress nnn)
  | .se x nn => s.skipIf (s.reg x == nn)
  | .sne x nn => s.skipIf (s.reg x != nn)
  | .seReg x y => s.skipIf (s.reg x == s.reg y)
  | .ld x nn => assign x nn s
  | .add x nn => assign x (s.reg x + nn) s
  | .ldReg x y => assign x (s.reg y) s
  | .or x y => assign x (s.reg x ||| s.reg y) s
  | .and x y => assign x (s.reg x &&& s.reg y) s
  | .xor x y => assign x (s.reg x ^^^ s.reg y) s
  | .addReg x y => assignThenFlag x (s.reg x + s.reg y) (carryFlag (s.reg x) (s.reg y)) s
  | .sub x y => assignThenFlag x (s.reg x - s.reg y) (noBorrowFlag (s.reg x) (s.reg y)) s
  | .shr x _ => flagThenShift x (shiftedOutRight (s.reg x)) (fun b => b >>> 1) s
  | .subn x y => assignThenFlag x (s.reg y - s.reg x) (strictlyGreaterFlag (s.reg y) (s.reg x)) s
  | .shl x _ => flagThenShift x (shiftedOutLeft (s.reg x)) (fun b => b <<< 1) s
  | .sneReg x y => s.skipIf (s.reg x != s.reg y)
  | .ldI nnn => (s.setI (zextAddress nnn)).advance
  | .jpV0 nnn => s.setPc (zextAddress nnn + zextByte (s.reg 0))
  | .rnd x nn => randomTo hardware x nn s
  | .drw x y n => drawn (s.canvas (s.reg x) (s.reg y) n.toNat) s
  | .skp x => s.skipIf (s.keyPressed (s.reg x))
  | .sknp x => s.skipIf (!(s.keyPressed (s.reg x)))
  | .ldVxDt x => assign x s.dt s
  | .ldVxK x => waitKey hardware x s
  | .ldDtVx x => (s.setDt (s.reg x)).advance
  | .ldStVx x => (s.setSt (s.reg x)).advance
  | .addIVx x => (s.setI (s.i + zextByte (s.reg x))).advance
  | .ldFVx x => (s.setI (glyphAddress (s.reg x))).advance
  | .ldBVx x => stored (decimalDigits (s.reg x)) s
  | .storeRegs x => stored ((regsUpTo x).map s.reg) s
  | .loadRegs x => (loadInto (regsUpTo x) s).advance

/-- The pieces of state, memory apart, that an instruction can change. -/
def changed (i : Instr) : List Component :=
  match i with
  | .cls => [.fb, .redraw, .pc]
  | .ret | .call _ => [.stack, .pc]
  | .jp _ | .se _ _ | .sne _ _ | .seReg _ _ | .sneReg _ _ | .jpV0 _ | .skp _ | .sknp _ | .ldBVx _ | .storeRegs _ => [.pc]
  | .ld x _ | .add x _ | .ldReg x _ | .or x _ | .and x _ | .xor x _ | .ldVxDt x => [.reg x, .pc]
  | .addReg x _ | .sub x _ | .shr x _ | .subn x _ | .shl x _ => [.reg x, .reg VF, .pc]
  | .ldI _ | .addIVx _ | .ldFVx _ => [.index, .pc]
  | .rnd x _ | .ldVxK x => [.reg x, .pc, .draws]
  | .drw _ _ _ => [.fb, .reg VF, .redraw, .pc]
  | .ldDtVx _ => [.dt, .pc]
  | .ldStVx _ => [.st, .pc]
  | .loadRegs x => .pc :: (regsUpTo x).map .reg

/-- The frame of every instruction that raises nothing, memory apart (spec/10_state.md sections 1, 7 and 9). -/
theorem effect_frame (i : Instr) (s : State) {c : Component} (hbyte : ∀ a, c ≠ .byte a) (hc : c ∉ changed i) :
    c.Same s (effect i s) := by
  cases i
  case cls => exact s.onlyChanges_setFb_setRedraw_advance _ _ c hc
  case ret | call => exact s.onlyChanges_setStack_setPc _ _ c hc
  case jp | jpV0 => exact s.onlyChanges_setPc _ c hc
  case se | sne | seReg | sneReg | skp | sknp => exact s.onlyChanges_skipIf _ c hc
  case ld | add | ldReg | or | and | xor | ldVxDt => exact onlyChanges_assign _ _ s c hc
  case addReg | sub | subn => exact onlyChanges_assignThenFlag _ _ _ s c hc
  case shr | shl => exact onlyChanges_flagThenShift _ _ _ s c hc
  case ldI | addIVx | ldFVx => exact s.onlyChanges_setI_advance _ c hc
  case rnd => exact onlyChanges_assign_nextDraw _ _ s c hc
  case ldVxK => exact onlyChanges_waitKey _ s c hc
  case drw => exact onlyChanges_drawn _ s c hc
  case ldDtVx => exact s.onlyChanges_setDt_advance _ c hc
  case ldStVx => exact s.onlyChanges_setSt_advance _ c hc
  case loadRegs => exact onlyChanges_loadInto_advance _ s c hc
  case ldBVx | storeRegs =>
    cases c
    case byte a => exact absurd rfl (hbyte a)
    case pc => simp [changed] at hc
    all_goals rfl

/-- Memory is changed by FX33 and FX55 only (spec/20_memory.md sections 2 and 3). -/
theorem effect_mem (i : Instr) (s : State) (hb : ∀ x, i ≠ .ldBVx x) (hstore : ∀ x, i ≠ .storeRegs x) : (effect i s).mem = s.mem := by
  cases i
  case ldBVx x => exact absurd rfl (hb x)
  case storeRegs x => exact absurd rfl (hstore x)
  case loadRegs x =>
    obtain ⟨v, hv⟩ := loadInto_frame (regsUpTo x) s
    rw [effect, State.advance_mem, hv]
  case ldVxK x =>
    cases h : s.pressedKeys with
    | nil => rw [effect, waitKey_none x h]
    | cons k ks => rw [effect, waitKey_some hardware x h]; rfl
  all_goals rfl

/-! ### What no instruction changes -/

@[simp] theorem effect_toneOn (i : Instr) (s : State) : (effect i s).toneOn = s.toneOn :=
  effect_frame i s (c := .toneOn) nofun (by cases i <;> simp [changed])

@[simp] theorem effect_keys (i : Instr) (s : State) : (effect i s).keys = s.keys :=
  effect_frame i s (c := .keys) nofun (by cases i <;> simp [changed])

@[simp] theorem effect_reports (i : Instr) (s : State) : (effect i s).reports = s.reports :=
  effect_frame i s (c := .reports) nofun (by cases i <;> simp [changed])

@[simp] theorem effect_runState (i : Instr) (s : State) : (effect i s).runState = s.runState :=
  effect_frame i s (c := .runState) nofun (by cases i <;> simp [changed])

@[simp] theorem effect_faultCode (i : Instr) (s : State) : (effect i s).faultCode = s.faultCode :=
  effect_frame i s (c := .faultCode) nofun (by cases i <;> simp [changed])

@[simp] theorem effect_faultInfo (i : Instr) (s : State) : (effect i s).faultInfo = s.faultInfo :=
  effect_frame i s (c := .faultInfo) nofun (by cases i <;> simp [changed])

/-! ### An instruction raises or has its effect -/

/-- An address that a condition reports does not exist, and fits the fault record (R301). -/
def Fatal.Recordable (f : Fatal) : Prop := ∀ a, f = .memOutOfRange a → 0x1000 ≤ a ∧ a ≤ 0xFFFF

/-- What an instruction does in a state: it raises the condition the tables name, or, if they name none, has its effect. -/
def RaisesOrActs (i : Instr) (s : State) : Prop :=
  (∃ f : Fatal, f.Recordable ∧ faultOf i s = some (f.code, f.info.toNat) ∧ exec i s = .next (s.raise f)) ∨
  (faultOf i s = none ∧ exec i s = .next (effect i s))

/-- The lowest address of a transfer that does not exist. -/
theorem State.recordable_memOutOfRange (s : State) : (Fatal.memOutOfRange (max s.i.toNat 0x1000)).Recordable := by
  rintro a ⟨⟩
  have := s.i.isLt
  omega

theorem State.toNat_info_memOutOfRange (s : State) :
    (Fatal.memOutOfRange (max s.i.toNat 0x1000)).info.toNat = max s.i.toNat 0x1000 :=
  Fatal.toNat_info_memOutOfRange _ (s.recordable_memOutOfRange _ rfl).2

/-- The transfers: the condition `p` of the table is that some address of the access list does not exist (R73, R301). -/
theorem raisesOrActs_of_guarded {i : Instr} {s : State} {n : Nat} {p : Prop} [Decidable p]
    (hexec : exec i s = .next (s.guarded (accessList s.i.toNat n) (effect i s)))
    (hfault : faultOf i s = if p then some (1#2, max s.i.toNat 0x1000) else none)
    (hp : p ↔ 0 < n ∧ 0x1000 < s.i.toNat + n) : RaisesOrActs i s := by
  rw [State.guarded_accessList] at hexec
  by_cases h : p
  · rw [if_pos (hp.1 h)] at hexec
    rw [if_pos h, ← s.toNat_info_memOutOfRange] at hfault
    exact .inl ⟨_, s.recordable_memOutOfRange, hfault, hexec⟩
  · rw [if_neg (mt hp.2 h)] at hexec
    rw [if_neg h] at hfault
    exact .inr ⟨hfault, hexec⟩

theorem raisesOrActs_ret (s : State) : RaisesOrActs .ret s := by
  cases h : s.stack with
  | nil => exact .inl ⟨.stackUnderflow, nofun, by simp [faultOf, h, Fatal.code, Fatal.info], congrArg _ (returnFrom_nil h)⟩
  | cons a rest => exact .inr ⟨by simp [faultOf, h], congrArg _ ((returnFrom_cons h).trans (by simp [effect, h]))⟩

theorem raisesOrActs_call (nnn : BitVec 12) (s : State) : RaisesOrActs (.call nnn) s := by
  by_cases h : s.stack.length = 16
  · exact .inl ⟨.stackOverflow, nofun, by simp [faultOf, h, Fatal.code, Fatal.info], congrArg _ (callTo_full _ h)⟩
  · exact .inr ⟨if_neg h, congrArg _ (callTo_room _ h)⟩

theorem exec_cases (i : Instr) (s : State) : RaisesOrActs i s := by
  cases i
  case ret => exact raisesOrActs_ret s
  case call nnn => exact raisesOrActs_call nnn s
  case drw x y n => exact raisesOrActs_of_guarded (n := n.toNat) rfl rfl (by omega)
  case ldBVx x => exact raisesOrActs_of_guarded (n := 3) rfl rfl (by omega)
  case storeRegs x => exact raisesOrActs_of_guarded (n := ((regsUpTo x).map s.reg).length) rfl rfl (by simp; omega)
  case loadRegs x => exact raisesOrActs_of_guarded (n := x.val + 1) rfl rfl (by omega)
  all_goals exact .inr ⟨rfl, rfl⟩

/-- An instruction that the tables let raise latches that condition and changes nothing else (R304). -/
theorem exec_of_fault {i : Instr} {s : State} {code : BitVec 2} {info : Nat} (h : faultOf i s = some (code, info)) :
    ∃ t, exec i s = .next t ∧ FaultEntry s t code info := by
  obtain ⟨f, -, hfault, hexec⟩ | ⟨hnone, -⟩ := exec_cases i s
  · cases h.symm.trans hfault
    exact ⟨_, hexec, s.faultEntry_raise f⟩
  · cases h.symm.trans hnone

theorem exec_of_no_fault {i : Instr} {s : State} (h : faultOf i s = none) : exec i s = .next (effect i s) := by
  obtain ⟨f, -, hfault, -⟩ | ⟨-, hexec⟩ := exec_cases i s
  · cases h.symm.trans hfault
  · exact hexec

theorem exec_next (i : Instr) (s : State) : ∃ t, exec i s = .next t := by
  obtain ⟨f, -, -, hexec⟩ | ⟨-, hexec⟩ := exec_cases i s
  · exact ⟨_, hexec⟩
  · exact ⟨_, hexec⟩

/-! ### The statements -/

/-- Settles O15: the two outcomes of an instruction, by what the tables name. -/
theorem instructionsFaultExactlyAsTabled : Obligations.InstructionsFaultExactlyAsTabled := by
  intro i s
  obtain ⟨f, -, hfault, hexec⟩ | ⟨hnone, hexec⟩ := exec_cases i s
  · refine ⟨_, hexec, fun code info h => ?_, fun h => ?_⟩
    · cases h.symm.trans hfault
      exact s.faultEntry_raise f
    · cases h.symm.trans hfault
  · refine ⟨_, hexec, fun code info h => ?_, fun _ => ⟨?_, ?_, ?_⟩⟩
    · cases h.symm.trans hnone
    · exact effect_runState i s
    · exact effect_faultCode i s
    · exact effect_faultInfo i s

end Sys2Proof.Machine
end

section
/-!
PROOFS. The tick (spec/60_exceptions.md R320) and the whole-machine rules, each from the two outcomes of an instruction (`exec_cases`)
and the three of a tick (`step_cases`).
-/

namespace Sys2Proof.Machine

/-! ### The three outcomes of a tick -/

theorem ofNat_pred_eq_countDown (b : Byte) : BitVec.ofNat 8 (b.toNat - 1) = countDown b := by
  apply BitVec.eq_of_toNat_eq
  have := b.isLt
  rw [toNat_countDown, BitVec.toNat_ofNat, Nat.mod_eq_of_lt (by omega)]

theorem afterTimers_eq (s : State) : afterTimers s = phaseB (phaseA s) := by
  have htone : decide (1 < s.st.toNat) = decide (0 < (countDown s.st).toNat) := by
    rw [toNat_countDown, decide_eq_decide]
    omega
  rw [phaseB_phaseA, afterTimers, ofNat_pred_eq_countDown, ofNat_pred_eq_countDown, htone]

theorem toNat_afterTimers_dt (s : State) : (afterTimers s).dt.toNat = s.dt.toNat - 1 := by
  rw [afterTimers_eq]
  exact toNat_countDown s.dt

theorem toNat_afterTimers_st (s : State) : (afterTimers s).st.toNat = s.st.toNat - 1 := by
  rw [afterTimers_eq]
  exact toNat_countDown s.st

theorem afterTimers_toneOn_iff (s : State) : (afterTimers s).toneOn = true ↔ 0 < s.st.toNat - 1 := by
  rw [afterTimers, decide_eq_true_iff]
  omega

theorem onlyChanges_afterTimers (s : State) : OnlyChanges s (afterTimers s) [.dt, .st, .toneOn] := by
  intro c hc
  cases c
  case dt | st | toneOn => simp at hc
  all_goals rfl

/-- What a tick of a running machine does after the timers and the tone: the fault entry of a fetch that fails, the instruction at
`pc`, or the report of an unrecognised word (R101, R308, R320). -/
theorem step_cases {s : State} (hrun : s.runState = .running) :
    (0xFFE < s.pc.toNat ∧ step s = .next ((afterTimers s).raise (.memOutOfRange (max s.pc.toNat 0x1000)))) ∨
    (s.pc.toNat ≤ 0xFFE ∧ ∃ i, decodeWord (wordAtPc s) = .instr i ∧ step s = exec i (afterTimers s)) ∨
    (s.pc.toNat ≤ 0xFFE ∧ ∃ why, decodeWord (wordAtPc s) = .rejected why ∧
      step s = .next ((afterTimers s).report (wordAtPc s)).advance) := by
  rw [step_running hrun, ← afterTimers_eq]
  obtain ⟨hpc, hfault⟩ | ⟨hpc, _, rfl, hinstr | hreject⟩ := phaseC_cases (afterTimers s)
  · exact .inl ⟨hpc, hfault⟩
  · exact .inr (.inl ⟨hpc, hinstr⟩)
  · exact .inr (.inr ⟨hpc, hreject⟩)

/-! ### Phase (c) -/

theorem State.faultEntry_raise_memOutOfRange (s : State) {a : Nat} (h : a ≤ 0xFFFF) :
    FaultEntry s (s.raise (.memOutOfRange a)) 1#2 a :=
  ⟨rfl, rfl, Fatal.toNat_info_memOutOfRange a h, s.onlyChanges_raise _⟩

/-- Settles O7: the timers and the tone are the phases before the instruction. -/
theorem stepRunsTheDecodedInstruction : Obligations.StepRunsTheDecodedInstruction := fun s i hrun hpc hdec => by
  rw [afterTimers_eq]
  exact step_eq_exec hrun hpc hdec

/-- Settles O8: of the three outcomes of a tick only the failed fetch has such a `pc`. -/
theorem fetchOutOfRangeFaults : Obligations.FetchOutOfRangeFaults := by
  intro s hrun hpc
  obtain ⟨-, hstep⟩ | ⟨hle, -⟩ | ⟨hle, -⟩ := step_cases hrun
  · have haddr : max s.pc.toNat 0x1000 = if s.pc.toNat = 0xFFF then 0x1000 else s.pc.toNat := by split <;> omega
    have hfits : max s.pc.toNat 0x1000 ≤ 0xFFFF := by have := s.pc.isLt; omega
    rw [haddr] at hstep hfits
    exact ⟨_, hstep, State.faultEntry_raise_memOutOfRange _ hfits⟩
  · omega
  · omega

theorem State.onlyChanges_report_advance (s : State) (op : Word) : OnlyChanges s (s.report op).advance [.pc, .reports] := by
  intro c hc
  cases c
  case pc | reports => simp at hc
  all_goals rfl

/-- Settles O9: of the three outcomes of a tick only the report has such a word at `pc`. -/
theorem unrecognisedWordIsReportedAndSkipped : Obligations.UnrecognisedWordIsReportedAndSkipped := by
  intro s why hrun hpc hdec
  obtain ⟨hgt, -⟩ | ⟨-, i, hinstr, -⟩ | ⟨-, _, -, hstep⟩ := step_cases hrun
  · omega
  · cases hdec.symm.trans hinstr
  · exact ⟨_, hstep, rfl, rfl, State.onlyChanges_report_advance _ _⟩

/-- Settles O11: both outcomes of an instruction and all three of a tick are next states. -/
theorem everyStepAnswersANextState : Obligations.EveryStepAnswersANextState := by
  refine ⟨exec_next, fun s => ?_⟩
  by_cases hrun : s.runState = .running
  · obtain ⟨-, hstep⟩ | ⟨-, i, -, hstep⟩ | ⟨-, _, -, hstep⟩ := step_cases hrun
    · exact ⟨_, hstep⟩
    · rw [hstep]
      exact exec_next i _
    · exact ⟨_, hstep⟩
  · exact ⟨s, step_not_running hrun⟩

/-! ### Timers and tone -/

theorem dt_mem_changed {i : Instr} (h : Component.dt ∈ changed i) : ∃ x, i = .ldDtVx x := by
  cases i <;> simp [changed] at h ⊢

theorem st_mem_changed {i : Instr} (h : Component.st ∈ changed i) : ∃ x, i = .ldStVx x := by
  cases i <;> simp [changed] at h ⊢

theorem effect_dt {i : Instr} (s : State) (h : ∀ x, i ≠ .ldDtVx x) : (effect i s).dt = s.dt :=
  effect_frame i s (c := .dt) nofun fun hc => (dt_mem_changed hc).elim h

theorem effect_st {i : Instr} (s : State) (h : ∀ x, i ≠ .ldStVx x) : (effect i s).st = s.st :=
  effect_frame i s (c := .st) nofun fun hc => (st_mem_changed hc).elim h

/-- Settles O12: a tick counts both timers down first, and only FX15 and FX18 write them after that. -/
theorem timersCountDownEveryTick : Obligations.TimersCountDownEveryTick := by
  intro s hrun
  obtain ⟨hpc, hstep⟩ | ⟨hpc, i, hdec, hstep⟩ | ⟨hpc, why, hdec, hstep⟩ := step_cases hrun
  · exact ⟨_, hstep, fun _ => toNat_afterTimers_dt s, fun _ => toNat_afterTimers_st s,
      fun _ _ hle => absurd hpc (by omega), fun _ _ hle => absurd hpc (by omega)⟩
  · obtain ⟨f, -, hfault, hexec⟩ | ⟨-, hexec⟩ := exec_cases i (afterTimers s)
    · refine ⟨_, hstep.trans hexec, fun _ => toNat_afterTimers_dt s, fun _ => toNat_afterTimers_st s, fun x hx _ => ?_, fun x hx _ => ?_⟩ <;>
        cases hdec.symm.trans hx <;> cases hfault
    · refine ⟨_, hstep.trans hexec, fun hno => ?_, fun hno => ?_, fun x hx _ => ?_, fun x hx _ => ?_⟩
      · obtain hno | hgt := hno
        · rw [effect_dt _ fun x hx => hno x (hx ▸ hdec), toNat_afterTimers_dt]
        · omega
      · obtain hno | hgt := hno
        · rw [effect_st _ fun x hx => hno x (hx ▸ hdec), toNat_afterTimers_st]
        · omega
      · cases hdec.symm.trans hx
        rfl
      · cases hdec.symm.trans hx
        rfl
  · exact ⟨_, hstep, fun _ => toNat_afterTimers_dt s, fun _ => toNat_afterTimers_st s,
      fun _ hx => (nomatch hdec.symm.trans hx), fun _ hx => (nomatch hdec.symm.trans hx)⟩

theorem exec_toneOn (i : Instr) (s : State) : ∃ t, exec i s = .next t ∧ t.toneOn = s.toneOn := by
  obtain ⟨f, -, -, hexec⟩ | ⟨-, hexec⟩ := exec_cases i s
  · exact ⟨_, hexec, rfl⟩
  · exact ⟨_, hexec, effect_toneOn i s⟩

/-- Settles O13: phase (b) sets the tone and nothing in phase (c) writes it. -/
theorem toneFollowsTheDecrementedSoundTimer : Obligations.ToneFollowsTheDecrementedSoundTimer := by
  intro s hrun
  have htone := afterTimers_toneOn_iff s
  obtain ⟨-, hstep⟩ | ⟨-, i, -, hstep⟩ | ⟨-, _, -, hstep⟩ := step_cases hrun
  · exact ⟨_, hstep, htone⟩
  · obtain ⟨t, hexec, ht⟩ := exec_toneOn i (afterTimers s)
    exact ⟨t, hstep.trans hexec, by rw [ht, htone]⟩
  · exact ⟨_, hstep, htone⟩

theorem pressedKeys_eq_nil {s : State} (h : ∀ k, s.keys.get k = false) : s.pressedKeys = [] :=
  List.eq_nil_iff_forall_not_mem.2 fun k hk => Bool.false_ne_true ((h k).symm.trans (mem_pressedKeys.1 hk))

/-- Settles O14: an FX0A that waits leaves the state as the timers and the tone left it. -/
theorem keyWaitTickOnlyRunsTheTimers : Obligations.KeyWaitTickOnlyRunsTheTimers := by
  intro s x hrun hpc hdec hkeys
  have hwait : waitKey hardware x (afterTimers s) = afterTimers s := waitKey_none x (pressedKeys_eq_nil hkeys)
  exact ⟨afterTimers s, (stepRunsTheDecodedInstruction s _ hrun hpc hdec).trans (congrArg _ hwait), toNat_afterTimers_dt s,
    toNat_afterTimers_st s, afterTimers_toneOn_iff s, onlyChanges_afterTimers s⟩

/-! ### An ended machine -/

/-- Settles O10: neither is RUNNING, and only in RUNNING does a tick have phases. -/
theorem tickOutsideRunningChangesNothing : Obligations.TickOutsideRunningChangesNothing := by
  rintro s (h | h)
  · exact step_not_running (h ▸ nofun)
  · exact step_not_running (h ▸ nofun)

/-- Settles O16, by induction on the number of ticks. -/
theorem endedMachineStaysForEveryTickCount : Obligations.EndedMachineStaysForEveryTickCount := by
  intro s n hrun
  induction n with
  | zero => rfl
  | succ n ih => exact (core_run_succ (step_not_running hrun)).trans ih

/-- Settles O17: a tick and `stop` do nothing out of RUNNING, a key and a frame write no run state. -/
theorem onlyResetLeavesAnEndedState : Obligations.OnlyResetLeavesAnEndedState := by
  intro e s hrun
  match e with
  | .tick => exact ⟨s, step_not_running hrun, fun _ => rfl, nofun⟩
  | .host (.setKey k b) => exact ⟨_, rfl, fun _ => rfl, nofun⟩
  | .host .presentFrame => exact ⟨_, rfl, fun _ => rfl, nofun⟩
  | .host .stop => exact ⟨_, rfl, fun _ => congrArg State.runState (stopCore_ended hrun), nofun⟩
  | .host .reset => exact ⟨_, rfl, fun h => absurd rfl h, fun _ => rfl⟩

end Sys2Proof.Machine
end

section
/-!
PROOFS. The invariant of the machine (spec/10_state.md sections 4, 5 and 8): it holds at reset and at launch, and the fault entry of a
reported condition, the effect of every instruction that could be fetched, and every host step keep it.
-/

namespace Sys2Proof.Machine

/-! ### The parts of the invariant -/

/-- The clauses of the invariant about the run state and the fault record. -/
structure State.RecordInv (s : State) : Prop where
  recorded : s.runState = .faulted ↔ s.faultCode ≠ 0#2
  address : s.faultCode = 1#2 → 0x1000 ≤ s.faultInfo.toNat
  noAddress : s.faultCode ≠ 1#2 → s.faultInfo = 0#16

theorem State.Inv.recordInv {s : State} (h : s.Inv) : s.RecordInv := ⟨h.recorded, h.address, h.noAddress⟩

/-- A state with the same run state and fault record keeps the clauses about them. -/
theorem State.RecordInv.congr {s t : State} (h : s.RecordInv) (hrun : t.runState = s.runState) (hcode : t.faultCode = s.faultCode)
    (hinfo : t.faultInfo = s.faultInfo) : t.RecordInv :=
  ⟨by rw [hrun, hcode]; exact h.recorded, by rw [hcode, hinfo]; exact h.address, by rw [hcode, hinfo]; exact h.noAddress⟩

/-- A running machine that is stopped had no fault recorded, and records none. -/
theorem State.RecordInv.stopped {s : State} (h : s.RecordInv) (hrun : s.runState = .running) : (s.setRun .stopped).RecordInv := by
  have hcode : s.faultCode = 0#2 := not_not.1 fun hne => nomatch hrun.symm.trans (h.recorded.2 hne)
  exact ⟨⟨nofun, fun hne => absurd hcode hne⟩, h.address, h.noAddress⟩

/-- A fault entry records the code and the address of its condition (R301 to R304). -/
theorem State.recordInv_raise (s : State) {f : Fatal} (hf : f.Recordable) : (s.raise f).RecordInv := by
  cases f with
  | memOutOfRange a =>
    obtain ⟨hlo, hhi⟩ := hf a rfl
    exact ⟨⟨fun _ => by simp [Fatal.code], fun _ => rfl⟩, fun _ => hlo.trans (Fatal.toNat_info_memOutOfRange a hhi).ge,
      fun h => absurd rfl h⟩
  | stackUnderflow => exact ⟨⟨fun _ => by simp [Fatal.code], fun _ => rfl⟩, nofun, fun _ => rfl⟩
  | stackOverflow => exact ⟨⟨fun _ => by simp [Fatal.code], fun _ => rfl⟩, nofun, fun _ => rfl⟩

/-- The invariant from its clauses about memory, the stack and `pc`, and those about the fault record. -/
theorem State.RecordInv.inv {s : State} (h : s.RecordInv) (hmem : s.mem.wf = true) (hdepth : s.stack.length ≤ 16)
    (hret : ∀ a ∈ s.stack, a.toNat ≤ 0xFFE) (hpc : s.pc.toNat ≤ 0x10FE) : s.Inv :=
  ⟨hmem, hdepth, hret, hpc, h.recorded, h.address, h.noAddress⟩

theorem State.Inv.raise {s : State} (h : s.Inv) {f : Fatal} (hf : f.Recordable) : (s.raise f).Inv :=
  (s.recordInv_raise hf).inv h.memory h.depth h.returns h.pcRange

/-! ### The effect of an instruction -/

/-- A skip or an advance from a `pc` that could be fetched. -/
theorem toNat_add_le {a : Word} {k n : Nat} (ha : a.toNat ≤ n) (h : n + k ≤ 0xFFFF) : (a + BitVec.ofNat 16 k).toNat ≤ n + k := by
  rw [BitVec.toNat_add, BitVec.toNat_ofNat]
  omega

theorem State.skipIf_pc_le {s : State} (hpc : s.pc.toNat ≤ 0xFFE) (c : Bool) : (s.skipIf c).pc.toNat ≤ 0x10FE := by
  cases c
  · exact (toNat_add_le (k := 2) hpc (by decide)).trans (by decide)
  · exact (toNat_add_le (k := 4) hpc (by decide)).trans (by decide)

theorem toNat_zextAddress_le (nnn : BitVec 12) : (zextAddress nnn).toNat ≤ 0xFFF := by
  rw [toNat_zextAddress]
  exact Nat.le_of_lt_succ nnn.isLt

theorem toNat_zextByte (b : Byte) : (zextByte b).toNat = b.toNat := BitVec.toNat_setWidth_of_le (by decide)

/-- The jump plus `V[0]` is not masked (R147). -/
theorem toNat_zextAddress_add_zextByte (nnn : BitVec 12) (b : Byte) :
    (zextAddress nnn + zextByte b).toNat = nnn.toNat + b.toNat := by
  have := nnn.isLt
  have := b.isLt
  rw [BitVec.toNat_add, toNat_zextAddress, toNat_zextByte, Nat.mod_eq_of_lt (by omega)]

/-- No instruction leaves more than `0x10FE` in `pc` (R27). -/
theorem effect_pc_le {i : Instr} {s : State} (hret : ∀ a ∈ s.stack, a.toNat ≤ 0xFFE) (hpc : s.pc.toNat ≤ 0xFFE) :
    (effect i s).pc.toNat ≤ 0x10FE := by
  have hadvance : s.advance.pc.toNat ≤ 0x10FE := s.skipIf_pc_le hpc false
  cases i
  case jp nnn | call nnn => exact (toNat_zextAddress_le nnn).trans (by decide)
  case jpV0 nnn =>
    have := nnn.isLt
    have := (s.reg 0).isLt
    rw [effect, State.setPc_pc, toNat_zextAddress_add_zextByte]
    omega
  case se | sne | seReg | sneReg | skp | sknp => exact State.skipIf_pc_le hpc _
  case ret =>
    have hhead : (s.stack.headD 0#16).toNat ≤ 0xFFE := by
      cases h : s.stack with
      | nil => decide
      | cons a rest => exact hret a (h ▸ List.mem_cons_self)
    exact (toNat_add_le (k := 2) hhead (by decide)).trans (by decide)
  case ldVxK x =>
    cases h : s.pressedKeys with
    | nil =>
      rw [effect, waitKey_none x h]
      omega
    | cons k ks =>
      rw [effect, waitKey_some hardware x h]
      exact hadvance
  case loadRegs x =>
    obtain ⟨v, hv⟩ := loadInto_frame (regsUpTo x) s
    rw [effect, hv]
    exact hadvance
  all_goals exact hadvance

theorem stored_mem_wf {bs : List Byte} {s : State} (hwf : s.mem.wf = true) (hfits : s.i.toNat + bs.length ≤ 0x1000) :
    (stored bs s).mem.wf = true :=
  Memory.writeBytes_wf hwf _ _ hfits

/-- A store that raises nothing is within the address space. -/
theorem effect_mem_wf {i : Instr} {s : State} (hfault : faultOf i s = none) (hwf : s.mem.wf = true) : (effect i s).mem.wf = true := by
  by_cases hb : ∃ x, i = .ldBVx x
  · obtain ⟨x, rfl⟩ := hb
    simp only [faultOf, ite_eq_right_iff, reduceCtorEq, imp_false] at hfault
    exact stored_mem_wf hwf (by rw [length_decimalDigits]; omega)
  · by_cases hs : ∃ x, i = .storeRegs x
    · obtain ⟨x, rfl⟩ := hs
      simp only [faultOf, ite_eq_right_iff, reduceCtorEq, imp_false] at hfault
      exact stored_mem_wf hwf (by rw [List.length_map, length_regsUpTo]; omega)
    · rw [effect_mem i s (fun x hx => hb ⟨x, hx⟩) fun x hx => hs ⟨x, hx⟩]
      exact hwf

theorem stack_mem_changed {i : Instr} (h : Component.stack ∈ changed i) : i = .ret ∨ ∃ nnn, i = .call nnn := by
  cases i <;> simp [changed] at h ⊢

/-- The stack after an instruction: popped, pushed with the instruction's own address, or as it was (R140, R142). -/
theorem effect_stack_cases (i : Instr) (s : State) :
    (effect i s).stack = s.stack.tail ∨ ((∃ nnn, i = .call nnn) ∧ (effect i s).stack = s.pc :: s.stack) ∨ (effect i s).stack = s.stack := by
  by_cases h : Component.stack ∈ changed i
  · obtain rfl | ⟨nnn, rfl⟩ := stack_mem_changed h
    · exact .inl rfl
    · exact .inr (.inl ⟨⟨nnn, rfl⟩, rfl⟩)
  · exact .inr (.inr (effect_frame i s (c := .stack) nofun h))

theorem State.Inv.effect {i : Instr} {s : State} (h : s.Inv) (hpc : s.pc.toNat ≤ 0xFFE) (hfault : faultOf i s = none) :
    (effect i s).Inv := by
  have hrecord := h.recordInv.congr (effect_runState i s) (effect_faultCode i s) (effect_faultInfo i s)
  have hmem := effect_mem_wf hfault h.memory
  have hpc' := effect_pc_le (i := i) h.returns hpc
  obtain hpop | ⟨⟨nnn, rfl⟩, hpush⟩ | hsame := effect_stack_cases i s
  · refine hrecord.inv hmem ?_ ?_ hpc'
    · rw [hpop, List.length_tail]
      exact (Nat.sub_le _ _).trans h.depth
    · rw [hpop]
      exact fun a ha => h.returns a (List.mem_of_mem_tail ha)
  · have hroom : s.stack.length ≠ 16 := by simpa [faultOf] using hfault
    refine hrecord.inv hmem ?_ ?_ hpc'
    · rw [hpush, List.length_cons]
      have := h.depth
      omega
    · rw [hpush]
      exact List.forall_mem_cons.2 ⟨hpc, h.returns⟩
  · refine hrecord.inv hmem ?_ ?_ hpc'
    · rw [hsame]
      exact h.depth
    · rw [hsame]
      exact h.returns

/-! ### The tick and the host -/

/-- The invariant is about memory, the stack, `pc`, the run state and the fault record. -/
theorem State.Inv.congr {s t : State} (h : s.Inv) (hmem : t.mem = s.mem) (hstack : t.stack = s.stack) (hpc : t.pc = s.pc)
    (hrun : t.runState = s.runState) (hcode : t.faultCode = s.faultCode) (hinfo : t.faultInfo = s.faultInfo) : t.Inv :=
  (h.recordInv.congr hrun hcode hinfo).inv (hmem ▸ h.memory) (hstack ▸ h.depth) (hstack ▸ h.returns) (hpc ▸ h.pcRange)

theorem State.Inv.afterTimers {s : State} (h : s.Inv) : (afterTimers s).Inv := h.congr rfl rfl rfl rfl rfl rfl

theorem State.Inv.report_advance {s : State} (h : s.Inv) (hpc : s.pc.toNat ≤ 0xFFE) (op : Word) : (s.report op).advance.Inv :=
  have hrecord : (s.report op).advance.RecordInv := h.recordInv.congr rfl rfl rfl
  hrecord.inv h.memory h.depth h.returns (s.skipIf_pc_le hpc false)

/-- Settles O19: the three outcomes of a tick keep the invariant, and of the two outcomes of an instruction each does. -/
theorem stepKeepsTheInvariant : Obligations.StepKeepsTheInvariant := by
  intro s h
  by_cases hrun : s.runState = .running
  · obtain ⟨hpc, hstep⟩ | ⟨hpc, i, -, hstep⟩ | ⟨hpc, _, -, hstep⟩ := step_cases hrun
    · refine ⟨_, hstep, h.afterTimers.raise ?_⟩
      rintro a ⟨⟩
      have := s.pc.isLt
      omega
    · obtain ⟨f, hf, -, hexec⟩ | ⟨hnone, hexec⟩ := exec_cases i (afterTimers s)
      · exact ⟨_, hstep.trans hexec, h.afterTimers.raise hf⟩
      · exact ⟨_, hstep.trans hexec, h.afterTimers.effect hpc hnone⟩
    · exact ⟨_, hstep, h.afterTimers.report_advance hpc _⟩
  · exact ⟨s, step_not_running hrun, h⟩

/-- Settles O18: every field of the reset state is a literal. -/
theorem invariantHoldsAtReset : Obligations.InvariantHoldsAtReset :=
  ⟨rfl, by decide, nofun, by decide, by decide, nofun, fun _ => rfl⟩

theorem State.Inv.setMem {s : State} (h : s.Inv) {m : Memory} (hwf : m.wf = true) : (s.setMem m).Inv :=
  ⟨hwf, h.depth, h.returns, h.pcRange, h.recorded, h.address, h.noAddress⟩

theorem launch_inv {img : Image} {s : State} (h : launch img = some s) : s.Inv := by
  by_cases hwf : img.wf = true
  · obtain ⟨hfont, hprogram⟩ := img.wf_iff.1 hwf
    cases (launch_of_wf hwf).symm.trans h
    have hfontMem : (State.reset.mem.writeBytes 0x050 img.font).wf = true :=
      Memory.writeBytes_wf rfl _ _ (by rw [hfont]; decide)
    have hmem : (loadImage img State.reset.mem).wf = true :=
      Memory.writeBytes_wf hfontMem _ _ (Nat.add_le_add_left hprogram 0x200)
    exact State.Inv.setMem invariantHoldsAtReset hmem
  · cases (if_neg hwf).symm.trans h

theorem State.Inv.hostAction {s : State} (h : s.Inv) (a : HostAction) : (a.apply s).Inv := by
  cases a with
  | setKey k b => exact h.congr rfl rfl rfl rfl rfl rfl
  | presentFrame => exact h.congr rfl rfl rfl rfl rfl rfl
  | stop =>
    by_cases hrun : s.runState = .running
    · rw [HostAction.apply, stopCore_running hrun]
      exact (h.recordInv.stopped hrun).inv h.memory h.depth h.returns h.pcRange
    · rw [HostAction.apply, stopCore_ended hrun]
      exact h
  | reset => exact State.Inv.congr invariantHoldsAtReset rfl rfl rfl rfl rfl rfl

theorem State.Inv.event {s : State} (h : s.Inv) (e : Event) : ∃ t, e.apply s = .next t ∧ t.Inv := by
  cases e with
  | tick => exact stepKeepsTheInvariant s h
  | host a => exact ⟨_, rfl, h.hostAction a⟩

theorem State.Inv.runEvents {s t : State} {es : List Event} (h : s.Inv) (hrun : runEvents es s = .next t) : t.Inv := by
  induction es generalizing s with
  | nil =>
    cases hrun
    exact h
  | cons e es ih =>
    obtain ⟨u, hu, hinv⟩ := h.event e
    rw [Machine.runEvents, hu] at hrun
    exact ih hinv hrun

/-- Settles O20: launch establishes the invariant and every event keeps it. -/
theorem reachableStatesMeetTheInvariant : Obligations.ReachableStatesMeetTheInvariant := by
  rintro img s ⟨s0, es, hlaunch, hrun⟩
  exact (launch_inv hlaunch).runEvents hrun

end Sys2Proof.Machine
end

section
/-!
PROOFS. The whole-machine tables (spec/10_state.md sections 1, 4, 7 and 9; spec/70_reset_and_hazards.md section 3): what each
instruction changes, what it reads, and where it leaves `pc`.
-/

namespace Sys2Proof.Machine

/-! ### What each instruction changes -/

/-- A piece of state, memory apart, that is not the same after an instruction is one that instruction changes. -/
theorem mem_changed_of_not_same {i : Instr} {s : State} {c : Component} (hbyte : ∀ a, c ≠ .byte a) (h : ¬ c.Same s (effect i s)) :
    c ∈ changed i :=
  not_not.1 fun hc => h (effect_frame i s hbyte hc)

theorem reg_mem_changed {i : Instr} {r : Reg} (h : Component.reg r ∈ changed i) : r ∈ registersWritten i := by
  cases i <;> simp_all [changed, registersWritten]

theorem index_mem_changed {i : Instr} (h : Component.index ∈ changed i) :
    (∃ nnn, i = .ldI nnn) ∨ (∃ x, i = .addIVx x) ∨ ∃ x, i = .ldFVx x := by
  cases i <;> simp [changed] at h ⊢

theorem draws_mem_changed {i : Instr} (h : Component.draws ∈ changed i) : (∃ x nn, i = .rnd x nn) ∨ ∃ x, i = .ldVxK x := by
  cases i <;> simp [changed] at h ⊢

theorem fb_or_redraw_mem_changed {i : Instr} (h : Component.fb ∈ changed i ∨ Component.redraw ∈ changed i) :
    i = .cls ∨ ∃ x y n, i = .drw x y n := by
  cases i <;> simp [changed] at h ⊢

/-- The two instructions that change the framebuffer set `redraw` (R34). -/
theorem effect_redraw {i : Instr} (s : State) (h : i = .cls ∨ ∃ x y n, i = .drw x y n) : (effect i s).redraw = true := by
  obtain rfl | ⟨x, y, n, rfl⟩ := h <;> rfl

theorem effect_mem_changes {i : Instr} {s : State} (h : (effect i s).mem ≠ s.mem) : (∃ x, i = .ldBVx x) ∨ ∃ x, i = .storeRegs x := by
  by_contra hno
  rw [not_or, not_exists, not_exists] at hno
  exact h (effect_mem i s hno.1 hno.2)

/-- Settles O21: a fault entry changes the fault record only, and what an effect changes is tabled by `changed`. -/
theorem onlyTheTabledInstructionsChangeEachState : Obligations.OnlyTheTabledInstructionsChangeEachState := by
  intro i s
  obtain ⟨f, -, hfault, hexec⟩ | ⟨-, hexec⟩ := exec_cases i s
  · exact ⟨_, hexec, fun _ _ => rfl, fun h => absurd rfl h, fun h => absurd rfl h, fun h => absurd rfl h, fun h => absurd rfl h,
      fun h => absurd rfl h, fun h => h.elim (absurd rfl) (absurd rfl), fun h => absurd rfl h,
      fun hnone => (nomatch hfault.symm.trans hnone), rfl, rfl, rfl⟩
  · refine ⟨_, hexec, fun r hr => ?_, fun h => ?_, fun h => ?_, fun h => ?_, fun h => ?_, effect_mem_changes, fun h => ?_, fun h => ?_,
      fun _ => ⟨effect_runState i s, effect_faultCode i s, effect_faultInfo i s⟩, effect_keys i s, effect_toneOn i s,
      effect_reports i s⟩
    · exact effect_frame i s (c := .reg r) nofun (mt reg_mem_changed hr)
    · exact index_mem_changed (mem_changed_of_not_same nofun h)
    · exact dt_mem_changed (mem_changed_of_not_same nofun h)
    · exact st_mem_changed (mem_changed_of_not_same nofun h)
    · exact stack_mem_changed (mem_changed_of_not_same nofun h)
    · have hi := fb_or_redraw_mem_changed (h.imp (mem_changed_of_not_same nofun) (mem_changed_of_not_same nofun))
      exact ⟨effect_redraw s hi, hi⟩
    · exact draws_mem_changed (mem_changed_of_not_same nofun h)

/-! ### Two states with the same fatal condition -/

theorem State.raise_congr (s : State) {f g : Fatal} (hcode : f.code = g.code) (hinfo : f.info = g.info) : s.raise f = s.raise g := by
  rw [State.raise, State.raise, hcode, hinfo]

/-- From two states for which the tables name the same condition, an instruction raises it in both or has its effect in both. -/
theorem exec_same_outcome {i : Instr} {s s' : State} (h : faultOf i s' = faultOf i s) :
    (∃ f, exec i s = .next (s.raise f) ∧ exec i s' = .next (s'.raise f)) ∨
    (exec i s = .next (effect i s) ∧ exec i s' = .next (effect i s')) := by
  obtain ⟨f, -, hf, hexec⟩ | ⟨hnone, hexec⟩ := exec_cases i s <;> obtain ⟨g, -, hg, hexec'⟩ | ⟨hnone', hexec'⟩ := exec_cases i s'
  · obtain ⟨hcode, hinfo⟩ := Prod.mk.inj (Option.some.inj (hg.symm.trans (h.trans hf)))
    exact .inl ⟨f, hexec, hexec'.trans (congrArg _ (s'.raise_congr hcode (BitVec.eq_of_toNat_eq hinfo)))⟩
  · cases hnone'.symm.trans (h.trans hf)
  · cases hg.symm.trans (h.trans hnone)
  · exact .inr ⟨hexec, hexec'⟩

/-! ### The registers read -/

/-- The state with another register file. -/
def State.withRegs (s : State) (v : Vector Byte 16) : State := { s with v := v }

/-- From `s` and from `s` with another register file: the same but for registers, and each register the same or left alone in both. -/
def AgreeButIdle (s : State) (v : Vector Byte 16) (t t' : State) : Prop :=
  ∃ w, t' = t.withRegs w ∧ ∀ r, t'.reg r = t.reg r ∨ (t.reg r = s.reg r ∧ t'.reg r = (s.withRegs v).reg r)

theorem agreeButIdle_assign (s : State) (v : Vector Byte 16) (x : Reg) (b : Byte) :
    AgreeButIdle s v (assign x b s) (assign x b (s.withRegs v)) := by
  refine ⟨_, rfl, fun r => ?_⟩
  rw [reg_assign, reg_assign]
  by_cases hr : r = x
  · exact .inl (by rw [if_pos hr, if_pos hr])
  · exact .inr ⟨if_neg hr, if_neg hr⟩

theorem agreeButIdle_assignThenFlag (s : State) (v : Vector Byte 16) (x : Reg) (b flag : Byte) :
    AgreeButIdle s v (assignThenFlag x b flag s) (assignThenFlag x b flag (s.withRegs v)) := by
  refine ⟨_, rfl, fun r => ?_⟩
  rw [reg_assignThenFlag, reg_assignThenFlag]
  by_cases hflag : r = VF
  · exact .inl (by rw [if_pos hflag, if_pos hflag])
  · by_cases hr : r = x
    · exact .inl (by rw [if_neg hflag, if_neg hflag, if_pos hr, if_pos hr])
    · exact .inr (by simp only [if_neg hflag, if_neg hr, and_self])

theorem agreeButIdle_flagThenShift (s : State) (v : Vector Byte 16) (x : Reg) (flag : Byte) (shift : Byte → Byte)
    (hx : (s.withRegs v).reg x = s.reg x) :
    AgreeButIdle s v (flagThenShift x flag shift s) (flagThenShift x flag shift (s.withRegs v)) := by
  refine ⟨_, rfl, fun r => ?_⟩
  rw [reg_flagThenShift, reg_flagThenShift, hx]
  by_cases hr : r = x
  · exact .inl (by rw [if_pos hr, if_pos hr])
  · by_cases hflag : r = VF
    · exact .inl (by rw [if_neg hr, if_neg hr, if_pos hflag, if_pos hflag])
    · exact .inr (by simp only [if_neg hflag, if_neg hr, and_self])

theorem agreeButIdle_drawn (s : State) (v : Vector Byte 16) (k : Canvas) : AgreeButIdle s v (drawn k s) (drawn k (s.withRegs v)) := by
  refine ⟨_, rfl, fun r => ?_⟩
  show ((s.withRegs v).setFlag _).reg r = (s.setFlag _).reg r ∨ (s.setFlag _).reg r = _ ∧ ((s.withRegs v).setFlag _).reg r = _
  rw [State.reg_setFlag, State.reg_setFlag]
  by_cases hflag : r = VF
  · exact .inl (by rw [if_pos hflag, if_pos hflag])
  · exact .inr ⟨if_neg hflag, if_neg hflag⟩

theorem agreeButIdle_loadInto (s : State) (v : Vector Byte 16) (rs : List Reg) :
    AgreeButIdle s v (loadInto rs s).advance (loadInto rs (s.withRegs v)).advance := by
  obtain ⟨w, hw⟩ := loadInto_frame rs s
  obtain ⟨w', hw'⟩ := loadInto_frame rs (s.withRegs v)
  refine ⟨w', by rw [hw, hw']; rfl, fun r => ?_⟩
  rw [State.reg_advance, State.reg_advance, reg_loadInto, reg_loadInto]
  by_cases hr : r ∈ rs
  · exact .inl (by rw [if_pos hr, if_pos hr]; rfl)
  · exact .inr ⟨if_neg hr, if_neg hr⟩

theorem agreeButIdle_waitKey (s : State) (v : Vector Byte 16) (x : Reg) :
    AgreeButIdle s v (waitKey hardware x s) (waitKey hardware x (s.withRegs v)) := by
  cases h : s.pressedKeys with
  | nil =>
    have h' : (s.withRegs v).pressedKeys = [] := h
    rw [waitKey_none x h, waitKey_none x h']
    exact ⟨v, rfl, fun r => .inr ⟨rfl, rfl⟩⟩
  | cons k ks =>
    have h' : (s.withRegs v).pressedKeys = k :: ks := h
    rw [waitKey_some hardware x h, waitKey_some hardware x h']
    obtain ⟨w, hw, hregs⟩ := agreeButIdle_assign s v x (keyByte (selectKey hardware s k ks))
    exact ⟨w, congrArg State.nextDraw hw, hregs⟩

theorem agreeButIdle_effect {i : Instr} {s : State} {v : Vector Byte 16} (h : ∀ r ∈ registersRead i, (s.withRegs v).reg r = s.reg r) :
    AgreeButIdle s v (effect i s) (effect i (s.withRegs v)) := by
  cases i
  case se x _ | sne x _ | skp x | sknp x | ldDtVx x | ldStVx x | addIVx x | ldFVx x | ldBVx x =>
    have hx := h x (by simp [registersRead])
    simp only [effect, hx]
    exact ⟨v, rfl, fun r => .inr ⟨rfl, rfl⟩⟩
  case seReg x y | sneReg x y =>
    have hx := h x (by simp [registersRead])
    have hy := h y (by simp [registersRead])
    simp only [effect, hx, hy]
    exact ⟨v, rfl, fun r => .inr ⟨rfl, rfl⟩⟩
  case jpV0 =>
    have h0 := h 0 (by simp [registersRead])
    simp only [effect, h0]
    exact ⟨v, rfl, fun r => .inr ⟨rfl, rfl⟩⟩
  case storeRegs x =>
    have hregs : (regsUpTo x).map (s.withRegs v).reg = (regsUpTo x).map s.reg := List.map_congr_left h
    simp only [effect, hregs]
    exact ⟨v, rfl, fun r => .inr ⟨rfl, rfl⟩⟩
  case ldReg x y =>
    have hy := h y (by simp [registersRead])
    simp only [effect, hy]
    exact agreeButIdle_assign s v x _
  case add x _ =>
    have hx := h x (by simp [registersRead])
    simp only [effect, hx]
    exact agreeButIdle_assign s v x _
  case or x y | and x y | xor x y =>
    have hx := h x (by simp [registersRead])
    have hy := h y (by simp [registersRead])
    simp only [effect, hx, hy]
    exact agreeButIdle_assign s v x _
  case addReg x y | sub x y | subn x y =>
    have hx := h x (by simp [registersRead])
    have hy := h y (by simp [registersRead])
    simp only [effect, hx, hy]
    exact agreeButIdle_assignThenFlag s v x _ _
  case shr x _ | shl x _ =>
    have hx := h x (by simp [registersRead])
    simp only [effect, hx]
    exact agreeButIdle_flagThenShift s v x _ _ hx
  case drw x y n =>
    have hx := h x (by simp [registersRead])
    have hy := h y (by simp [registersRead])
    simp only [effect, hx, hy]
    exact agreeButIdle_drawn s v _
  case ld x nn => exact agreeButIdle_assign s v x nn
  case ldVxDt x => exact agreeButIdle_assign s v x s.dt
  case rnd x nn =>
    obtain ⟨w, hw, hregs⟩ := agreeButIdle_assign s v x (s.randByte hardware &&& nn)
    exact ⟨w, congrArg State.nextDraw hw, hregs⟩
  case ldVxK x => exact agreeButIdle_waitKey s v x
  case loadRegs x => exact agreeButIdle_loadInto s v (regsUpTo x)
  all_goals exact ⟨v, rfl, fun r => .inr ⟨rfl, rfl⟩⟩

/-- No fatal condition depends on a register (R301 to R303). -/
theorem faultOf_withRegs (i : Instr) (s : State) (v : Vector Byte 16) : faultOf i (s.withRegs v) = faultOf i s := by
  cases i <;> rfl

/-- Settles O22: both states raise the same condition, or have effects that agree but for idle registers. -/
theorem instructionsReadOnlyTheTabledRegisters : Obligations.InstructionsReadOnlyTheTabledRegisters := by
  intro i s v h
  obtain ⟨f, hexec, hexec'⟩ | ⟨hexec, hexec'⟩ := exec_same_outcome (faultOf_withRegs i s v)
  · exact ⟨s.raise f, v, hexec, hexec', fun r => .inr ⟨rfl, rfl⟩⟩
  · obtain ⟨w, hw, hregs⟩ := agreeButIdle_effect h
    rw [hw] at hexec' hregs
    exact ⟨effect i s, w, hexec, hexec', hregs⟩

/-! ### The keys and the draws -/

/-- The state with other keys and another draw counter. -/
def State.withInputs (s : State) (keys : Vector Bool 16) (draws : Nat) : State := { s with keys := keys, draws := draws }

theorem loadInto_withInputs (rs : List Reg) (s : State) (keys : Vector Bool 16) (draws : Nat) :
    loadInto rs (s.withInputs keys draws) = (loadInto rs s).withInputs keys draws := by
  induction rs generalizing s with
  | nil => rfl
  | cons r rs ih => exact ih (s.writeReg r (s.mem.read (s.i.toNat + r.val)))

theorem effect_withInputs {i : Instr} (s : State) (keys : Vector Bool 16) (draws : Nat) (hrnd : ∀ x nn, i ≠ .rnd x nn)
    (hskp : ∀ x, i ≠ .skp x) (hsknp : ∀ x, i ≠ .sknp x) (hwait : ∀ x, i ≠ .ldVxK x) :
    effect i (s.withInputs keys draws) = (effect i s).withInputs keys draws := by
  cases i
  case rnd x nn => exact absurd rfl (hrnd x nn)
  case skp x => exact absurd rfl (hskp x)
  case sknp x => exact absurd rfl (hsknp x)
  case ldVxK x => exact absurd rfl (hwait x)
  case loadRegs x => exact congrArg State.advance (loadInto_withInputs (regsUpTo x) s keys draws)
  all_goals rfl

/-- No fatal condition depends on the keys or on a draw (R301 to R303). -/
theorem faultOf_withInputs (i : Instr) (s : State) (keys : Vector Bool 16) (draws : Nat) :
    faultOf i (s.withInputs keys draws) = faultOf i s := by
  cases i <;> rfl

/-- Settles O23: both states raise the same condition, or have the same effect. -/
theorem otherInstructionsIgnoreKeysAndDraws : Obligations.OtherInstructionsIgnoreKeysAndDraws := by
  intro i s keys draws hrnd hskp hsknp hwait
  obtain ⟨f, hexec, hexec'⟩ | ⟨hexec, hexec'⟩ := exec_same_outcome (faultOf_withInputs i s keys draws)
  · exact ⟨s.raise f, hexec, hexec'⟩
  · exact ⟨effect i s, hexec, hexec'.trans (congrArg _ (effect_withInputs s keys draws hrnd hskp hsknp hwait))⟩

/-! ### The program counter -/

/-- The key test of the skips is that of the tables (R257). -/
theorem keyPressed_iff (s : State) (b : Byte) : s.keyPressed b = true ↔ Pressed s b := by
  unfold State.keyPressed Pressed
  split
  case isTrue h => exact ⟨fun hk => ⟨⟨b.toNat, h⟩, rfl, hk⟩, fun ⟨k, hk, hpressed⟩ => (Fin.ext hk : k = ⟨b.toNat, h⟩) ▸ hpressed⟩
  case isFalse h => exact ⟨nofun, fun ⟨k, hk, _⟩ => absurd (hk ▸ k.isLt) h⟩

/-- The new `pc` of a skip whose condition tests `p`, on each outcome of the test. -/
theorem State.skipIf_pc_cases (s : State) {c : Bool} {p : Prop} (h : c = true ↔ p) :
    (p → (s.skipIf c).pc = s.pc + 4#16) ∧ (¬ p → (s.skipIf c).pc = s.pc + 2#16) :=
  ⟨fun hp => by rw [h.2 hp]; rfl, fun hp => by rw [Bool.eq_false_iff.2 (mt h.1 hp)]; rfl⟩

/-- The `pc` of SKP, on the key pressed and not pressed. -/
theorem skp_pc (s : State) (b : Byte) : (Pressed s b → (s.skipIf (s.keyPressed b)).pc = s.pc + 4#16) ∧
    (¬ Pressed s b → (s.skipIf (s.keyPressed b)).pc = s.pc + 2#16) :=
  s.skipIf_pc_cases (keyPressed_iff s b)

/-- The `pc` of SKNP, on the key pressed and not pressed. -/
theorem sknp_pc (s : State) (b : Byte) : (Pressed s b → (s.skipIf (!(s.keyPressed b))).pc = s.pc + 2#16) ∧
    (¬ Pressed s b → (s.skipIf (!(s.keyPressed b))).pc = s.pc + 4#16) :=
  have htest : (!(s.keyPressed b)) = true ↔ ¬ Pressed s b := by rw [Bool.not_eq_true', ← Bool.not_eq_true, keyPressed_iff]
  ⟨fun h => (s.skipIf_pc_cases htest).2 (not_not.2 h), (s.skipIf_pc_cases htest).1⟩

/-- A pressed key makes the list of the pressed keys non-empty. -/
theorem pressedKeys_eq_cons {s : State} {k : KeyCode} (h : s.keys.get k = true) : ∃ l ls, s.pressedKeys = l :: ls :=
  List.exists_cons_of_ne_nil (List.ne_nil_of_mem (mem_pressedKeys.2 h))

theorem waitKey_pc (x : Reg) (s : State) : ((∃ k, s.keys.get k = true) → (waitKey hardware x s).pc = s.pc + 2#16) ∧
    ((∀ k, s.keys.get k = false) → (waitKey hardware x s).pc = s.pc) := by
  refine ⟨fun ⟨k, hk⟩ => ?_, fun h => ?_⟩
  · obtain ⟨l, ls, hl⟩ := pressedKeys_eq_cons hk
    rw [waitKey_some hardware x hl]
    rfl
  · rw [waitKey_none x (pressedKeys_eq_nil h)]

/-- Settles O24: a fault entry keeps `pc`, and the `pc` of an effect is read off instruction by instruction. -/
theorem programCounterAfterEachInstruction : Obligations.ProgramCounterAfterEachInstruction := by
  refine ⟨fun i s => ?_, fun s why hrun hpc hdec => ?_⟩
  · obtain ⟨f, -, hfault, hexec⟩ | ⟨hnone, hexec⟩ := exec_cases i s
    · exact ⟨_, hexec, fun _ => rfl, fun hnone => (nomatch hfault.symm.trans hnone)⟩
    · refine ⟨_, hexec, fun h => absurd hnone h, fun h => ?_⟩
      clear h hnone hexec
      cases i
      case jp nnn | call nnn => exact toNat_zextAddress nnn
      case jpV0 nnn => exact toNat_zextAddress_add_zextByte nnn (s.reg 0)
      case ret =>
        intro a rest hstack
        rw [effect, hstack]
        rfl
      case se | seReg => exact s.skipIf_pc_of_iff beq_iff_eq
      case sne | sneReg => exact s.skipIf_pc_of_iff bne_iff_ne
      case skp x => exact skp_pc s (s.reg x)
      case sknp x => exact (sknp_pc s (s.reg x)).symm
      case ldVxK x => exact waitKey_pc x s
      case loadRegs x =>
        obtain ⟨v, hv⟩ := loadInto_frame (regsUpTo x) s
        show (loadInto (regsUpTo x) s).advance.pc = s.pc + 2#16
        rw [hv]
        rfl
      all_goals rfl
  · obtain ⟨t, hstep, hpc', -⟩ := unrecognisedWordIsReportedAndSkipped s why hrun hpc hdec
    exact ⟨t, hstep, hpc'⟩

end Sys2Proof.Machine
end

section
/-!
PROOFS. Control flow and arithmetic (spec/40_control_flow.md, spec/41_alu.md, spec/42_index_memory.md, each section 2): the value
of each result is said once as arithmetic of bytes, its frame is that of its shared operation.
-/

namespace Sys2Proof.Machine

/-! ### Control flow -/

/-- Settles O26: the sum of a 12-bit address and a byte fits 16 bits. -/
theorem jumpPlusV0IsNotMasked : Obligations.JumpPlusV0IsNotMasked := fun nnn s =>
  ⟨formatNNN_and_mask _ _, effect (.jpV0 nnn) s, rfl, toNat_zextAddress_add_zextByte nnn (s.reg 0), s.onlyChanges_setPc _⟩

/-- Settles O27: the two outcomes of CALL, by the depth of the stack. -/
theorem callPushesItsOwnAddress : Obligations.CallPushesItsOwnAddress := by
  intro nnn s
  refine ⟨formatNNN_and_mask _ _, fun hroom => ?_, fun hfull => ?_⟩
  · exact ⟨effect (.call nnn) s, exec_of_no_fault (if_neg hroom), rfl, toNat_zextAddress nnn, s.onlyChanges_setStack_setPc _ _⟩
  · exact exec_of_fault (if_pos hfull)

theorem exec_ret_cons {s : State} {a : Word} {rest : List Word} (h : s.stack = a :: rest) :
    exec .ret s = .next ((s.setStack rest).setPc (a + 2#16)) :=
  congrArg _ (returnFrom_cons h)

/-- Settles O28: the two outcomes of RET, by the stack being empty. -/
theorem returnResumesAfterTheCall : Obligations.ReturnResumesAfterTheCall := by
  refine ⟨rfl, fun s a rest hstack => ?_, fun s hstack => ?_⟩
  · exact ⟨_, exec_ret_cons hstack, rfl, BitVec.toNat_add _ _, s.onlyChanges_setStack_setPc _ _⟩
  · exact exec_of_fault (if_pos (hstack ▸ rfl))

/-- Settles O29: CALL leaves its own address on the stack, and RET takes it. -/
theorem callThenReturnRestoresTheCaller : Obligations.CallThenReturnRestoresTheCaller := by
  intro nnn s hroom
  refine ⟨effect (.call nnn) s, exec_of_no_fault (if_neg hroom), fun u hu => ?_⟩
  exact ⟨_, exec_ret_cons hu, rfl, rfl, u.onlyChanges_setStack_setPc _ _⟩

/-! ### Logic -/

/-- Settles O32: the three are plain results, read bit by bit. -/
theorem logicInstructionsLeaveTheFlag : Obligations.LogicInstructionsLeaveTheFlag := by
  refine ⟨fun x y s => ⟨?_, ?_⟩, fun x y s => ⟨?_, ?_⟩, fun x y s => ⟨?_, ?_⟩⟩
  · exact formatXYN_and_nibble _ _ _ _
  · exact exec_assigns (P := fun b => ∀ k, b.getLsbD k = ((s.reg x).getLsbD k || (s.reg y).getLsbD k)) rfl
      fun _ => BitVec.getLsbD_or
  · exact formatXYN_and_nibble _ _ _ _
  · exact exec_assigns (P := fun b => ∀ k, b.getLsbD k = ((s.reg x).getLsbD k && (s.reg y).getLsbD k)) rfl
      fun _ => BitVec.getLsbD_and
  · exact formatXYN_and_nibble _ _ _ _
  · exact exec_assigns (P := fun b => ∀ k, b.getLsbD k = ((s.reg x).getLsbD k != (s.reg y).getLsbD k)) rfl
      fun _ => BitVec.getLsbD_xor

/-! ### Sums and differences with a flag -/

/-- What an instruction does whose meaning is a result in `x` and then a flag, for any property `P` of the byte assigned. -/
theorem exec_assignsThenFlags {i : Instr} {x : Reg} {b flag : Byte} {s : State} {P : Byte → Prop}
    (hexec : exec i s = .next (assignThenFlag x b flag s)) (hb : P b) :
    ∃ t, exec i s = .next t ∧ (x ≠ VF → P (t.reg x)) ∧ t.reg VF = flag ∧ t.pc = s.pc + 2#16 ∧
      OnlyChanges s t [.reg x, .reg VF, .pc] := by
  refine ⟨_, hexec, fun hx => ?_, ?_, rfl, onlyChanges_assignThenFlag x b flag s⟩
  · rw [reg_assignThenFlag, if_neg hx, if_pos rfl]
    exact hb
  · rw [reg_assignThenFlag, if_pos rfl]

theorem flagByte_decide (p : Prop) [Decidable p] : flagByte (decide p) = if p then 1#8 else 0#8 := by
  by_cases h : p <;> simp [flagByte, h]

/-- The difference of two bytes is the integer one modulo 256. -/
theorem toNat_sub_byte (a b : Byte) : ((a - b).toNat : Int) = (a.toNat - b.toNat : Int) % 256 := by
  have ha := a.isLt
  have hb := b.isLt
  rw [BitVec.toNat_sub]
  omega

/-- Settles O33: the sum of bytes is the one modulo 256, and the carry flag decides the comparison of the statement. -/
theorem addRegistersSetsTheCarry : Obligations.AddRegistersSetsTheCarry := by
  refine fun x y s => ⟨formatXYN_and_nibble _ _ _ _, ?_⟩
  rw [← flagByte_decide]
  exact exec_assignsThenFlags (P := (·.toNat = ((s.reg x).toNat + (s.reg y).toNat) % 256)) rfl (BitVec.toNat_add _ _)

/-- Settles O34: the two differences, each with the comparison its flag decides. -/
theorem subtractionsSetTheirFlags : Obligations.SubtractionsSetTheirFlags := by
  refine ⟨fun x y s => ⟨formatXYN_and_nibble _ _ _ _, ?_⟩, fun x y s => ⟨formatXYN_and_nibble _ _ _ _, ?_⟩⟩
  · rw [← flagByte_decide]
    exact exec_assignsThenFlags (P := fun b => (b.toNat : Int) = ((s.reg x).toNat - (s.reg y).toNat : Int) % 256) rfl
      (toNat_sub_byte _ _)
  · rw [← flagByte_decide]
    exact exec_assignsThenFlags (P := fun b => (b.toNat : Int) = ((s.reg y).toNat - (s.reg x).toNat : Int) % 256) rfl
      (toNat_sub_byte _ _)

/-! ### Shifts -/

/-- What an instruction does whose meaning is a flag and then a shift, for any properties of the shifted byte, of the flag and of the
shifted flag. -/
theorem exec_flagsThenShifts {i : Instr} {x : Reg} {flag : Byte} {shift : Byte → Byte} {s : State} {P Q R : Byte → Prop}
    (hexec : exec i s = .next (flagThenShift x flag shift s)) (hshift : P (shift (s.reg x))) (hflag : Q flag) (hboth : R (shift flag)) :
    ∃ t, exec i s = .next t ∧ (x ≠ VF → P (t.reg x) ∧ Q (t.reg VF)) ∧ (x = VF → R (t.reg VF)) ∧ t.pc = s.pc + 2#16 ∧
      OnlyChanges s t [.reg x, .reg VF, .pc] := by
  refine ⟨_, hexec, fun hx => ⟨?_, ?_⟩, fun hx => ?_, rfl, onlyChanges_flagThenShift x flag shift s⟩
  · rw [reg_flagThenShift, if_pos rfl, if_neg hx]
    exact hshift
  · rw [reg_flagThenShift, if_neg (Ne.symm hx), if_pos rfl]
    exact hflag
  · rw [reg_flagThenShift, if_pos hx.symm, if_pos hx]
    exact hboth

theorem toNat_shiftRight_one (b : Byte) : (b >>> 1).toNat = b.toNat / 2 := by
  rw [BitVec.toNat_ushiftRight, Nat.shiftRight_eq_div_pow]

theorem toNat_shiftLeft_one (b : Byte) : (b <<< 1).toNat = 2 * b.toNat % 256 := by
  rw [BitVec.toNat_shiftLeft, Nat.shiftLeft_eq, Nat.mul_comm]

/-- The bit a right shift loses is bit 0. -/
theorem toNat_shiftedOutRight (b : Byte) : (shiftedOutRight b).toNat = b.toNat % 2 := by
  rw [shiftedOutRight, BitVec.toNat_and]
  exact Nat.and_one_is_mod _

/-- The bit a left shift loses is bit 7. -/
theorem toNat_shiftedOutLeft (b : Byte) : (shiftedOutLeft b).toNat = b.toNat / 128 := by
  have hb := b.isLt
  rw [shiftedOutLeft, BitVec.toNat_ushiftRight, BitVec.toNat_and, Nat.shiftRight_and_distrib, Nat.shiftRight_eq_div_pow]
  exact (Nat.and_one_is_mod _).trans (Nat.mod_eq_of_lt (by omega))

/-- A flag shifted right is 0. -/
theorem shiftedOutRight_shiftRight (b : Byte) : shiftedOutRight b >>> 1 = 0#8 := by
  apply BitVec.eq_of_toNat_eq
  rw [toNat_shiftRight_one, toNat_shiftedOutRight]
  exact Nat.div_eq_of_lt (Nat.mod_lt _ (by decide))

/-- A flag shifted left is 2 or 0. -/
theorem shiftedOutLeft_shiftLeft (b : Byte) : shiftedOutLeft b <<< 1 = if 128 ≤ b.toNat then 2#8 else 0#8 := by
  have hb := b.isLt
  apply BitVec.eq_of_toNat_eq
  rw [toNat_shiftLeft_one, toNat_shiftedOutLeft]
  split
  · rw [show b.toNat / 128 = 1 by omega]
    rfl
  · rw [Nat.div_eq_of_lt (by omega)]
    rfl

/-- Settles O35: the two shifts, the bits they lose, and the flag shifted in turn. -/
theorem shiftsCaptureTheLostBit : Obligations.ShiftsCaptureTheLostBit := by
  refine ⟨fun x y s => ⟨formatXYN_and_nibble _ _ _ _, ?_⟩, fun x y s => ⟨formatXYN_and_nibble _ _ _ _, ?_⟩⟩
  · exact exec_flagsThenShifts (P := (·.toNat = (s.reg x).toNat / 2)) (Q := (·.toNat = (s.reg x).toNat % 2)) (R := (· = 0#8)) rfl
      (toNat_shiftRight_one _) (toNat_shiftedOutRight _) (shiftedOutRight_shiftRight _)
  · obtain ⟨t, hexec, hne, heq, hframe⟩ := exec_flagsThenShifts (i := .shl x y) (P := (·.toNat = 2 * (s.reg x).toNat % 256))
      (Q := (·.toNat = (s.reg x).toNat / 128)) (R := (· = if 128 ≤ (s.reg x).toNat then 2#8 else 0#8)) rfl
      (toNat_shiftLeft_one _) (toNat_shiftedOutLeft _) (shiftedOutLeft_shiftLeft _)
    exact ⟨t, hexec, hne, fun hx => hx ▸ heq hx, hframe⟩

/-! ### The random byte -/

/-- Settles O36: the draw is ANDed with the mask. -/
theorem randomByteIsMasked : Obligations.RandomByteIsMasked := by
  intro x nn s
  have hreg : (randomTo hardware x nn s).reg x = Config.freeRand s.draws &&& nn := by
    rw [reg_randomTo, if_pos rfl]
    rfl
  refine ⟨formatXNN_and_class _ _ _, randomTo hardware x nn s, rfl, hreg, fun k hk => ?_, rfl, rfl, onlyChanges_assign_nextDraw _ _ _⟩
  rw [hreg, BitVec.getLsbD_and, hk, Bool.and_false]

/-! ### The index register -/

/-- The glyph address does not wrap, for the whole byte (R204). -/
theorem toNat_glyphAddress (b : Byte) : (glyphAddress b).toNat = 0x50 + 5 * b.toNat := by
  have hb := b.isLt
  rw [glyphAddress, BitVec.toNat_add, BitVec.toNat_mul, toNat_zextByte, BitVec.toNat_ofNat, BitVec.toNat_ofNat]
  omega

/-- Settles O38: the sum of `I` and a byte is the one modulo 65536, the glyph address is the formula. -/
theorem indexArithmetic : Obligations.IndexArithmetic := by
  refine ⟨fun x s => ⟨formatXNN_and_low _ _ _, ?_⟩, fun x s => ⟨formatXNN_and_low _ _ _, ?_⟩⟩
  · refine ⟨effect (.addIVx x) s, rfl, ?_, rfl, s.onlyChanges_setI_advance _⟩
    rw [← toNat_zextByte]
    exact BitVec.toNat_add _ _
  · exact ⟨effect (.ldFVx x) s, rfl, toNat_glyphAddress _, rfl, s.onlyChanges_setI_advance _⟩

end Sys2Proof.Machine
end

section
/-!
PROOFS. Memory transfers, keys, the sound timer, reset and the host (spec/20_memory.md, spec/42_index_memory.md section 2,
spec/44_keys_timers.md, spec/60_exceptions.md section 7, spec/70_reset_and_hazards.md section 1).
-/

namespace Sys2Proof.Machine

/-! ### Memory -/

/-- Settles O44: the range check, and the law of read after write. -/
theorem memoryAccessIsCheckedAndLocal : Obligations.MemoryAccessIsCheckedAndLocal := by
  refine ⟨fun m a => ⟨fun h => if_pos h, fun h => if_neg (Nat.not_lt.2 h)⟩, fun m a w hwf => ⟨fun h => if_pos h, fun h => ?_⟩⟩
  refine ⟨m.write a w, if_neg (Nat.not_lt.2 h), Memory.write_wf w hwf h, ?_, fun b hb => ?_⟩
  · rw [Memory.read_write hwf, if_pos rfl]
  · rw [Memory.read_write hwf, if_neg hb]

/-- A byte of a store that fits, by its place in the list. -/
theorem read_stored_add {s : State} {bs : List Byte} (hwf : s.mem.wf = true) (hfits : s.i.toNat + bs.length ≤ 0x1000) {k : Nat}
    (hk : k < bs.length) : (stored bs s).mem.read (s.i.toNat + k) = bs.getD k 0#8 := by
  rw [read_stored hwf hfits, if_pos (by omega), Nat.add_sub_cancel_left]

/-- Settles O39: the three digits are stored in order, and out of range is the condition of the table. -/
theorem decimalStoreWritesThreeDigits : Obligations.DecimalStoreWritesThreeDigits := by
  intro x s
  refine ⟨formatXNN_and_low _ _ _, fun hwf hi => ?_, fun hi => exec_of_fault (if_pos (by omega))⟩
  have hfits : s.i.toNat + (decimalDigits (s.reg x)).length ≤ 0x1000 := by
    rw [length_decimalDigits]
    omega
  have hdigit {k : Nat} (hk : k < 3) := read_stored_add hwf hfits hk
  refine ⟨effect (.ldBVx x) s, exec_of_no_fault (if_neg (by omega)), ?_, ?_, ?_, rfl, onlyChanges_stored hwf hfits⟩
  · exact (congrArg BitVec.toNat (hdigit (k := 0) (by decide))).trans BitVec.toNat_udiv
  · exact (congrArg BitVec.toNat (hdigit (k := 1) (by decide))).trans (by simp [decimalDigits])
  · exact (congrArg BitVec.toNat (hdigit (k := 2) (by decide))).trans BitVec.toNat_umod

/-- The registers of a block transfer stand in the stored list at their own number. -/
theorem getD_map_regsUpTo {x r : Reg} (s : State) (h : r.val ≤ x.val) : ((regsUpTo x).map s.reg).getD r.val 0#8 = s.reg r := by
  rw [List.getD_eq_getElem?_getD, List.getElem?_map, getElem?_regsUpTo x r h]
  rfl

theorem exec_storeRegs {x : Reg} {s : State} (hi : s.i.toNat + x.val ≤ 0xFFF) :
    exec (.storeRegs x) s = .next (stored ((regsUpTo x).map s.reg) s) :=
  exec_of_no_fault (if_neg (by omega))

/-- FX55 in range leaves each register at `I` plus its number (R206). -/
theorem read_stored_regsUpTo {x r : Reg} {s : State} (hwf : s.mem.wf = true) (hi : s.i.toNat + x.val ≤ 0xFFF) (hr : r.val ≤ x.val) :
    (stored ((regsUpTo x).map s.reg) s).mem.read (s.i.toNat + r.val) = s.reg r := by
  have hlen : ((regsUpTo x).map s.reg).length = x.val + 1 := by rw [List.length_map, length_regsUpTo]
  rw [read_stored_add hwf (by omega) (by omega), getD_map_regsUpTo s hr]

/-- Settles O40: each register is stored at its number, and out of range is the condition of the table. -/
theorem blockStoreWritesTheRegisters : Obligations.BlockStoreWritesTheRegisters := by
  intro x s
  refine ⟨formatXNN_and_low _ _ _, fun hwf hi => ?_, fun hi => exec_of_fault (if_pos hi)⟩
  have hlen : ((regsUpTo x).map s.reg).length = x.val + 1 := by rw [List.length_map, length_regsUpTo]
  have hframe := onlyChanges_stored (bs := (regsUpTo x).map s.reg) hwf (by omega)
  rw [hlen] at hframe
  exact ⟨_, exec_storeRegs hi, fun r hr => read_stored_regsUpTo hwf hi hr, rfl, hframe⟩

theorem exec_loadRegs {x : Reg} {s : State} (hi : s.i.toNat + x.val ≤ 0xFFF) :
    exec (.loadRegs x) s = .next (loadInto (regsUpTo x) s).advance :=
  exec_of_no_fault (if_neg (by omega))

/-- FX65 in range leaves in each register the byte at `I` plus its number (R207). -/
theorem reg_loadInto_regsUpTo {x r : Reg} (s : State) (hr : r.val ≤ x.val) :
    (loadInto (regsUpTo x) s).advance.reg r = s.mem.read (s.i.toNat + r.val) :=
  (reg_loadInto _ s r).trans (if_pos (mem_regsUpTo.2 hr))

theorem loadInto_advance_pc (rs : List Reg) (s : State) : (loadInto rs s).advance.pc = s.pc + 2#16 := by
  obtain ⟨v, hv⟩ := loadInto_frame rs s
  rw [hv]
  rfl

/-- Settles O41: each register is loaded from its number, and out of range is the condition of the table. -/
theorem blockLoadReadsTheRegisters : Obligations.BlockLoadReadsTheRegisters := by
  intro x s
  refine ⟨formatXNN_and_low _ _ _, fun hi => ?_, fun hi => exec_of_fault (if_pos hi)⟩
  exact ⟨_, exec_loadRegs hi, fun r hr => reg_loadInto_regsUpTo s hr, loadInto_advance_pc _ s, onlyChanges_loadInto_advance _ s⟩

/-- Settles O42: the load reads the bytes that the store left. -/
theorem blockStoreThenLoadRestores : Obligations.BlockStoreThenLoadRestores := by
  intro x s hwf hi
  refine ⟨_, exec_storeRegs hi, fun u hmem hindex => ?_⟩
  have hui : u.i = s.i := hindex
  refine ⟨_, exec_loadRegs (hui ▸ hi), fun r hr => ?_⟩
  rw [reg_loadInto_regsUpTo u hr, hmem, hui]
  exact read_stored_regsUpTo hwf hi hr

/-- Settles O43: the word after the store is the one that the registers held. -/
theorem storedWordIsFetchedByTheNextTick : Obligations.StoredWordIsFetchedByTheNextTick := by
  intro x i s hwf hrun hx hi hnext hdec
  refine ⟨_, exec_storeRegs hi, ?_⟩
  have hpc : (stored ((regsUpTo x).map s.reg) s).pc = s.i := hnext.symm
  have hword : wordAtPc (stored ((regsUpTo x).map s.reg) s) = joinBytes (s.reg 0) (s.reg 1) := by
    rw [wordAtPc, hpc]
    exact congrArg₂ joinBytes (read_stored_regsUpTo hwf hi (r := 0) (Nat.zero_le _)) (read_stored_regsUpTo hwf hi (r := 1) hx)
  refine stepRunsTheDecodedInstruction _ i hrun ?_ (hword ▸ hdec)
  rw [hpc]
  omega

/-! ### Keys -/

/-- Settles O48: both skips test the key of the tables. -/
theorem keySkipsAreOpposite : Obligations.KeySkipsAreOpposite := by
  intro x s
  obtain ⟨hskp, hskp'⟩ := skp_pc s (s.reg x)
  obtain ⟨hsknp, hsknp'⟩ := sknp_pc s (s.reg x)
  exact ⟨formatXNN_and_low _ _ _, formatXNN_and_low _ _ _,
    ⟨effect (.skp x) s, rfl, hskp, hskp', s.onlyChanges_skipIf _⟩, ⟨effect (.sknp x) s, rfl, hsknp, hsknp', s.onlyChanges_skipIf _⟩⟩

/-- With a key pressed, FX0A assigns a pressed key under every configuration (R252). -/
theorem waitKey_of_pressed (c : Config) (x : Reg) {s : State} {k : KeyCode} (h : s.keys.get k = true) :
    ∃ l, s.keys.get l = true ∧ waitKey c x s = (assign x (keyByte l) s).nextDraw := by
  obtain ⟨l, ls, hl⟩ := pressedKeys_eq_cons h
  exact ⟨selectKey c s l ls, mem_pressedKeys.1 (hl ▸ selectKey_mem c s l ls), waitKey_some c x hl⟩

/-- Settles O49: the two outcomes of FX0A, by a key being pressed. -/
theorem keyWaitStoresAPressedKey : Obligations.KeyWaitStoresAPressedKey := by
  intro x s
  refine ⟨formatXNN_and_low _ _ _, fun h => congrArg _ (waitKey_none x (pressedKeys_eq_nil h)), fun ⟨k, hk⟩ => ?_⟩
  obtain ⟨l, hl, hwait⟩ := waitKey_of_pressed hardware x hk
  refine ⟨(assign x (keyByte l) s).nextDraw, l, congrArg Host.Outcome.next hwait, hl, ?_, rfl, rfl, onlyChanges_assign_nextDraw _ _ _⟩
  rw [State.reg_nextDraw, reg_assign_same, toNat_keyByte]

/-- The configuration that takes the key `k` where it is pressed. -/
def choosing (k : KeyCode) : Config := { hardware with keySelect := fun _ l => l.idxOf k }

theorem selectKey_choosing (s : State) {k l : KeyCode} {ls : List KeyCode} (h : k ∈ l :: ls) : selectKey (choosing k) s l ls = k := by
  have hidx : (l :: ls).idxOf k < (l :: ls).length := List.idxOf_lt_length_iff.2 h
  have hmod : (l :: ls).idxOf k % (ls.length + 1) = (l :: ls).idxOf k := Nat.mod_eq_of_lt hidx
  show (l :: ls).getD ((l :: ls).idxOf k % (ls.length + 1)) l = k
  rw [hmod, List.getD_eq_getElem _ _ hidx, List.getElem_idxOf hidx]

/-- Settles O50: the choice is always pressed, and a configuration may choose by the key itself. -/
theorem keyChoiceIsOpenAmongThePressed : Obligations.KeyChoiceIsOpenAmongThePressed := by
  intro x s k hk
  refine ⟨fun c => ?_, choosing k, ?_⟩
  · obtain ⟨l, hl, hwait⟩ := waitKey_of_pressed c x hk
    refine ⟨l, hl, ?_⟩
    rw [hwait, State.reg_nextDraw, reg_assign_same]
  · obtain ⟨l, ls, hl⟩ := pressedKeys_eq_cons hk
    rw [waitKey_some _ x hl, State.reg_nextDraw, reg_assign_same, selectKey_choosing s (hl ▸ mem_pressedKeys.2 hk)]

/-! ### The sound timer -/

/-- Settles O52: the tone of the next tick follows the value written, counted down. -/
theorem soundTimerSoundsOneTickLater : Obligations.SoundTimerSoundsOneTickLater := by
  intro x s
  refine ⟨formatXNN_and_low _ _ _, effect (.ldStVx x) s, rfl, rfl, rfl, s.onlyChanges_setSt_advance _, fun hrun => ?_⟩
  obtain ⟨u, hstep, htone⟩ := toneFollowsTheDecrementedSoundTimer (effect (.ldStVx x) s) hrun
  have hvalue : 0 < (s.reg x).toNat - 1 ↔ 2 ≤ (s.reg x).toNat := by omega
  exact ⟨u, hstep, htone.trans hvalue⟩

/-! ### Reset, launch and the host -/

theorem reg_reset (r : Reg) : State.reset.reg r = 0#8 := by
  rw [State.reg, State.reset, Vector.get_eq_getElem, Vector.getElem_replicate]

theorem onlyChanges_resetCore (s : State) : OnlyChanges State.reset (resetCore s) [.keys, .draws] := by
  intro c hc
  cases c
  case keys | draws => simp at hc
  all_goals rfl

/-- Settles O53: the reset state is a literal, and the host's reset is that state with two fields kept. -/
theorem resetStateIsAsTabled : Obligations.ResetStateIsAsTabled :=
  ⟨⟨rfl, fun _ => rfl, rfl⟩, ⟨reg_reset, rfl, rfl, rfl, Framebuffer.cell_blank, rfl, rfl, rfl, rfl, rfl⟩,
    fun s => ⟨rfl, rfl, onlyChanges_resetCore s⟩⟩

/-- Settles O55: an image has a launch state exactly when it is well-formed. -/
theorem onlyImagesThatFitCanBeLaunched : Obligations.OnlyImagesThatFitCanBeLaunched := by
  intro img
  rw [← img.wf_iff]
  by_cases hwf : img.wf = true
  · exact iff_of_true ⟨_, launch_of_wf hwf⟩ hwf
  · exact iff_of_false (fun ⟨_, h⟩ => nomatch (if_neg hwf).symm.trans h) hwf

theorem State.onlyChanges_setKey (s : State) (k : KeyCode) (b : Bool) : OnlyChanges s (s.setKey k b) [.keys] := by
  intro c hc
  cases c
  case keys => simp at hc
  all_goals rfl

theorem State.onlyChanges_setRedraw (s : State) (b : Bool) : OnlyChanges s (s.setRedraw b) [.redraw] := by
  intro c hc
  cases c
  case redraw => simp at hc
  all_goals rfl

theorem State.onlyChanges_setRun (s : State) (r : RunState) : OnlyChanges s (s.setRun r) [.runState] := by
  intro c hc
  cases c
  case runState => simp at hc
  all_goals rfl

theorem onlyChanges_stopCore (s : State) : OnlyChanges s (stopCore s) [.runState] := by
  by_cases hrun : s.runState = .running
  · rw [stopCore_running hrun]
    exact s.onlyChanges_setRun _
  · rw [stopCore_ended hrun]
    exact OnlyChanges.refl s _

/-- A key has the level last set, and setting it leaves the others alone. -/
theorem State.keys_setKey (s : State) (k : KeyCode) (b : Bool) (l : KeyCode) :
    (s.setKey k b).keys.get l = if l = k then b else s.keys.get l := by
  simp only [setKey_keys, Vector.get_eq_getElem, Vector.getElem_set, Fin.ext_iff, eq_comm]

/-- Settles O56: each host step is one update, and `stop` is one in RUNNING only. -/
theorem hostActionsChangeOnlyTheirOwnState : Obligations.HostActionsChangeOnlyTheirOwnState := by
  refine ⟨fun s k b => ⟨?_, fun l hl => ?_, s.onlyChanges_setKey k b⟩, fun s => ⟨rfl, s.onlyChanges_setRedraw false⟩,
    fun s => ⟨fun hrun => ?_, fun hrun => ?_, onlyChanges_stopCore s⟩⟩
  · exact (s.keys_setKey k b k).trans (if_pos rfl)
  · exact (s.keys_setKey k b l).trans (if_neg hl)
  · exact congrArg State.runState (stopCore_running hrun)
  · exact congrArg State.runState (stopCore_ended hrun)

/-! ### Other values of the parameters -/

theorem State.onlyChanges_report (s : State) (op : Word) : OnlyChanges s (s.report op) [.reports] := by
  intro c hc
  cases c
  case reports => simp at hc
  all_goals rfl

theorem waitKey_of_not_blocking {c : Config} (x : Reg) {s : State} (hc : c.keywaitBlocks = false) (h : s.pressedKeys = []) :
    waitKey c x s = s.advance := by
  simp only [waitKey, h, hc, Bool.false_eq_true, if_false]

theorem unrecognised_of_not_advancing {c : Config} (op : Word) (s : State) (hc : c.unrecognizedAdvances = false) :
    unrecognised c op s = s.report op := by
  simp only [unrecognised, hc, Bool.false_eq_true, if_false]

theorem callTo_of_unbounded {c : Config} (target : Word) (s : State) (hc : c.stackDepth = none) :
    callTo c target s = (s.push s.pc).setPc target := by
  simp only [callTo, stackFull, hc, Bool.false_eq_true, if_false]

/-- Settles O57: what each governed operation is under the other value of its parameter. -/
theorem parametersTakeTheirOtherValues : Obligations.ParametersTakeTheirOtherValues := by
  refine ⟨fun c x nn s hc => ?_, fun c x s hc hkeys => ?_, fun c op s hc => ?_, fun c a s hc => ?_, fun c op s hc hop => ?_⟩
  · rw [reg_randomTo, if_pos rfl, hc]
    rfl
  · rw [waitKey_of_not_blocking x hc (pressedKeys_eq_nil hkeys)]
    exact ⟨rfl, s.onlyChanges_setPc _⟩
  · rw [unrecognised_of_not_advancing op s hc]
    exact ⟨rfl, s.onlyChanges_report op⟩
  · rw [callTo_of_unbounded a s hc]
    exact ⟨rfl, rfl⟩
  · rw [rejectWord, hc, hop]
    rfl

end Sys2Proof.Machine
end

section
/-!
PROOFS. The closed form of a draw (spec/43_display.md R232): the pixel loop toggles the cells of a list, and no cell stands in it twice,
because the 8 columns and at most 32 rows of a sprite stay apart modulo 64 and 32. So each cell is toggled once or not at all.
-/

namespace Sys2Proof.Machine

/-! ### Toggling the cells of a list -/

/-- The canvas after one XOR for each cell of a list. -/
def Canvas.toggleAll (k : Canvas) (ps : List (Fin 64 × Fin 32)) : Canvas := ps.foldl (fun k p => k.toggle p.1 p.2) k

theorem Canvas.toggleAll_append (k : Canvas) (ps qs : List (Fin 64 × Fin 32)) :
    k.toggleAll (ps ++ qs) = (k.toggleAll ps).toggleAll qs :=
  List.foldl_append

/-- The cells of a list without repetition are each toggled once. -/
theorem Canvas.cell_toggleAll {ps : List (Fin 64 × Fin 32)} (hnodup : ps.Nodup) (k : Canvas) (x : Fin 64) (y : Fin 32) :
    (k.toggleAll ps).fb.cell x y = (k.fb.cell x y ^^ decide ((x, y) ∈ ps)) := by
  induction ps generalizing k with
  | nil => simp [toggleAll]
  | cons p ps ih =>
    obtain ⟨hp, hps⟩ := List.nodup_cons.1 hnodup
    have hrec : ((k.toggle p.1 p.2).toggleAll ps).fb.cell x y = _ := ih hps (k.toggle p.1 p.2)
    refine hrec.trans ?_
    rw [cell_toggle]
    by_cases hxy : (x, y) = p
    · subst hxy
      simp [hp]
    · have hcell : ¬ (x = p.1 ∧ y = p.2) := fun h => hxy (Prod.ext h.1 h.2)
      rw [if_neg hcell]
      simp [hxy]

/-- Toggling the cells of a list without repetition collides when one of them was set. -/
theorem Canvas.hit_toggleAll {ps : List (Fin 64 × Fin 32)} (hnodup : ps.Nodup) (k : Canvas) :
    (k.toggleAll ps).hit = true ↔ k.hit = true ∨ ∃ p ∈ ps, k.fb.cell p.1 p.2 = true := by
  induction ps generalizing k with
  | nil => simp [toggleAll]
  | cons p ps ih =>
    obtain ⟨hp, hps⟩ := List.nodup_cons.1 hnodup
    have hrec : ((k.toggle p.1 p.2).toggleAll ps).hit = true ↔ _ := ih hps (k.toggle p.1 p.2)
    have hcells : ∀ q ∈ ps, (k.toggle p.1 p.2).fb.cell q.1 q.2 = k.fb.cell q.1 q.2 := fun q hq => by
      have hne : ¬ (q.1 = p.1 ∧ q.2 = p.2) := fun h => hp (Prod.ext h.1 h.2 ▸ hq)
      rw [cell_toggle, if_neg hne]
    refine hrec.trans ?_
    rw [hit_toggle, Bool.or_eq_true, or_assoc, List.exists_mem_cons_iff]
    exact or_congr_right (or_congr_right (exists_congr fun q => and_congr_right fun hq => by rw [hcells q hq]))

/-! ### The cells of a sprite -/

/-- The cells under the 1 bits of a row byte, at the given sprite columns. -/
def rowCells (b : Byte) (x0 y : Nat) (cs : List Nat) : List (Fin 64 × Fin 32) :=
  (cs.filter (spriteBit b)).map fun c => (wrapColumn (x0 + c), wrapRow y)

/-- The cells under the 1 bits of a sprite, its rows from row `y`. -/
def spriteCells (x0 : Nat) : Nat → List Byte → List (Fin 64 × Fin 32)
  | _, [] => []
  | y, b :: bs => rowCells b x0 y spriteColumns ++ spriteCells x0 (y + 1) bs

theorem Canvas.drawColumns_eq (b : Byte) (x0 y : Nat) (cs : List Nat) (k : Canvas) :
    k.drawColumns b x0 y cs = k.toggleAll (rowCells b x0 y cs) := by
  induction cs generalizing k with
  | nil => rfl
  | cons c cs ih =>
    rw [drawColumns, ih]
    by_cases hbit : spriteBit b c = true
    · rw [if_pos hbit, rowCells, rowCells, List.filter_cons_of_pos hbit]
      rfl
    · rw [if_neg hbit, rowCells, rowCells, List.filter_cons_of_neg hbit]

theorem Canvas.drawRows_eq (x0 y : Nat) (bs : List Byte) (k : Canvas) :
    Canvas.drawRows x0 y bs k = k.toggleAll (spriteCells x0 y bs) := by
  induction bs generalizing y k with
  | nil => rfl
  | cons b bs ih => rw [drawRows, ih, drawColumns_eq, spriteCells, toggleAll_append]

theorem mem_spriteColumns {c : Nat} : c ∈ spriteColumns ↔ c < 8 := List.mem_range (n := 8)

theorem mem_rowCells {b : Byte} {x0 y : Nat} {p : Fin 64 × Fin 32} :
    p ∈ rowCells b x0 y spriteColumns ↔ ∃ c, c < 8 ∧ spriteBit b c = true ∧ p = (wrapColumn (x0 + c), wrapRow y) := by
  simp only [rowCells, List.mem_map, List.mem_filter, mem_spriteColumns, and_assoc, eq_comm]

/-- A cell of a sprite lies in one of its rows. -/
theorem mem_spriteCells {x0 y : Nat} {bs : List Byte} {p : Fin 64 × Fin 32} :
    p ∈ spriteCells x0 y bs ↔
      ∃ r c, r < bs.length ∧ c < 8 ∧ spriteBit (bs.getD r 0#8) c = true ∧ p = (wrapColumn (x0 + c), wrapRow (y + r)) := by
  induction bs generalizing y with
  | nil => simp [spriteCells]
  | cons b bs ih =>
    rw [spriteCells, List.mem_append, mem_rowCells, ih]
    constructor
    · rintro (⟨c, hc, hbit, hp⟩ | ⟨r, c, hr, hc, hbit, hp⟩)
      · exact ⟨0, c, Nat.succ_pos _, hc, hbit, hp⟩
      · exact ⟨r + 1, c, Nat.succ_lt_succ hr, hc, hbit, hp.trans (by rw [Nat.add_right_comm, Nat.add_assoc])⟩
    · rintro ⟨r, c, hr, hc, hbit, hp⟩
      cases r with
      | zero => exact .inl ⟨c, hc, hbit, hp⟩
      | succ r => exact .inr ⟨r, c, Nat.lt_of_succ_lt_succ hr, hc, hbit, hp.trans (by rw [Nat.add_right_comm, Nat.add_assoc])⟩

theorem wrapColumn_inj {x0 c d : Nat} (hc : c < 8) (hd : d < 8) (h : wrapColumn (x0 + c) = wrapColumn (x0 + d)) : c = d := by
  have hmod : (x0 + c) % 64 = (x0 + d) % 64 := congrArg Fin.val h
  omega

theorem wrapRow_ne {y r : Nat} (hpos : 0 < r) (hr : r < 32) : wrapRow (y + r) ≠ wrapRow y := fun h => by
  have hmod : (y + r) % 32 = y % 32 := congrArg Fin.val h
  omega

theorem nodup_rowCells (b : Byte) (x0 y : Nat) : (rowCells b x0 y spriteColumns).Nodup := by
  refine List.Nodup.map_on (fun c hc d hd h => ?_) (List.Nodup.filter _ (by decide))
  exact wrapColumn_inj (mem_spriteColumns.1 (List.mem_filter.1 hc).1) (mem_spriteColumns.1 (List.mem_filter.1 hd).1)
    (congrArg Prod.fst h)

/-- No cell stands twice in a sprite of at most 32 rows. -/
theorem nodup_spriteCells (x0 y : Nat) (bs : List Byte) (h : bs.length ≤ 32) : (spriteCells x0 y bs).Nodup := by
  induction bs generalizing y with
  | nil => exact List.nodup_nil
  | cons b bs ih =>
    rw [List.length_cons] at h
    refine (nodup_rowCells b x0 y).append (ih (y + 1) (by omega)) fun p hrow hrest => ?_
    obtain ⟨c, -, -, hp⟩ := mem_rowCells.1 hrow
    obtain ⟨r, d, hr, -, -, hp'⟩ := mem_spriteCells.1 hrest
    have hrows : wrapRow (y + 1 + r) = wrapRow y := congrArg Prod.snd (hp'.symm.trans hp)
    rw [Nat.add_assoc] at hrows
    exact wrapRow_ne (by omega) (by omega) hrows

/-! ### A draw -/

/-- The cells of the sprite of `n` rows at `I`, drawn at a position. -/
def State.drawCells (s : State) (x0 y0 : Byte) (n : Nat) : List (Fin 64 × Fin 32) :=
  spriteCells x0.toNat y0.toNat (s.bytesAt (accessList s.i.toNat n))

theorem getD_bytesAt_accessList (s : State) {n r : Nat} (h : r < n) :
    (s.bytesAt (accessList s.i.toNat n)).getD r 0#8 = s.mem.read (s.i.toNat + r) := by
  simp [State.bytesAt, accessList, List.getD_eq_getElem?_getD, h]

/-- The cells of the loop are those of the tables. -/
theorem mem_drawCells {s : State} {x0 y0 : Byte} {n : Nat} {cx : Fin 64} {cy : Fin 32} :
    (cx, cy) ∈ s.drawCells x0 y0 n ↔ DrawsOn s x0 y0 n cx cy := by
  have hlen : (s.bytesAt (accessList s.i.toNat n)).length = n := by rw [State.bytesAt, List.length_map, length_accessList]
  rw [State.drawCells, mem_spriteCells, hlen]
  refine exists_congr fun r => exists_congr fun c => and_congr_right fun hr => and_congr_right fun _ => ?_
  rw [getD_bytesAt_accessList s hr, Prod.mk.injEq, Fin.ext_iff, Fin.ext_iff]
  rfl

theorem State.canvas_eq (s : State) (x0 y0 : Byte) (n : Nat) :
    s.canvas x0 y0 n = Canvas.toggleAll ⟨s.fb, false⟩ (s.drawCells x0 y0 n) :=
  Canvas.drawRows_eq _ _ _ _

theorem nodup_drawCells (s : State) (x0 y0 : Byte) (n : BitVec 4) : (s.drawCells x0 y0 n.toNat).Nodup := by
  refine nodup_spriteCells _ _ _ ?_
  rw [State.bytesAt, List.length_map, length_accessList]
  exact n.isLt.le.trans (by decide)

/-- A cell after a draw. -/
theorem State.cell_canvas (s : State) (x0 y0 : Byte) (n : BitVec 4) (cx : Fin 64) (cy : Fin 32) :
    (s.canvas x0 y0 n.toNat).fb.cell cx cy = true ↔ (s.fb.cell cx cy = true ↔ ¬ DrawsOn s x0 y0 n.toNat cx cy) := by
  rw [s.canvas_eq, Canvas.cell_toggleAll (nodup_drawCells s x0 y0 n), ← mem_drawCells]
  by_cases h : (cx, cy) ∈ s.drawCells x0 y0 n.toNat <;> simp [h]

/-- The collision of a draw. -/
theorem State.hit_canvas (s : State) (x0 y0 : Byte) (n : BitVec 4) :
    (s.canvas x0 y0 n.toNat).hit = true ↔ ∃ cx cy, DrawsOn s x0 y0 n.toNat cx cy ∧ s.fb.cell cx cy = true := by
  rw [s.canvas_eq, Canvas.hit_toggleAll (nodup_drawCells s x0 y0 n)]
  simp only [Bool.false_eq_true, false_or, Prod.exists, mem_drawCells]

theorem exec_drw {x y : Reg} {n : BitVec 4} {s : State} (h : n.toNat = 0 ∨ s.i.toNat + n.toNat - 1 ≤ 0xFFF) :
    exec (.drw x y n) s = .next (effect (.drw x y n) s) :=
  exec_of_no_fault (if_neg (by omega))

theorem cell_effect_drw (x y : Reg) (n : BitVec 4) (s : State) (cx : Fin 64) (cy : Fin 32) :
    (effect (.drw x y n) s).fb.cell cx cy = true ↔
      (s.fb.cell cx cy = true ↔ ¬ DrawsOn s (s.reg x) (s.reg y) n.toNat cx cy) :=
  s.cell_canvas (s.reg x) (s.reg y) n cx cy

/-- The flag a draw leaves is that of its collision (R232). -/
theorem reg_VF_effect_drw (x y : Reg) (n : BitVec 4) (s : State) :
    (effect (.drw x y n) s).reg VF = flagByte (s.canvas (s.reg x) (s.reg y) n.toNat).hit :=
  s.reg_setFlag_same _

theorem flagByte_eq_one_iff (b : Bool) : flagByte b = 1#8 ↔ b = true := by
  cases b <;> decide

theorem reg_VF_effect_drw_eq_one_iff (x y : Reg) (n : BitVec 4) (s : State) :
    (effect (.drw x y n) s).reg VF = 1#8 ↔
      ∃ cx cy, DrawsOn s (s.reg x) (s.reg y) n.toNat cx cy ∧ s.fb.cell cx cy = true := by
  rw [reg_VF_effect_drw, flagByte_eq_one_iff, s.hit_canvas]

/-- A draw moves neither `I` nor memory nor a coordinate register but `VF`, so a second draw is on the same cells. -/
theorem drawsOn_effect_drw {x y : Reg} (n : BitVec 4) (s : State) (hx : x ≠ VF) (hy : y ≠ VF) (cx : Fin 64) (cy : Fin 32) :
    DrawsOn (effect (.drw x y n) s) ((effect (.drw x y n) s).reg x) ((effect (.drw x y n) s).reg y) n.toNat cx cy ↔
      DrawsOn s (s.reg x) (s.reg y) n.toNat cx cy := by
  have hregx : (effect (.drw x y n) s).reg x = s.reg x := s.reg_setFlag_ne hx _
  have hregy : (effect (.drw x y n) s).reg y = s.reg y := s.reg_setFlag_ne hy _
  rw [hregx, hregy]
  rfl

/-! ### The statements -/

/-- Settles O46: the closed forms of the cells and of the collision, and out of range is the condition of the table. -/
theorem drawTogglesExactlyTheSpriteCells : Obligations.DrawTogglesExactlyTheSpriteCells := by
  intro x y n s
  refine ⟨formatXYN_and_class _ _ _ _, fun hrange => ?_, fun hpos hout => exec_of_fault (if_pos ⟨hpos, hout⟩)⟩
  refine ⟨_, exec_drw hrange, cell_effect_drw x y n s, (reg_VF_effect_drw_eq_one_iff x y n s).2, fun h => ?_, rfl, rfl,
    onlyChanges_drawn _ s⟩
  rw [reg_VF_effect_drw, Bool.eq_false_iff.2 (mt (s.hit_canvas _ _ n).1 h)]
  rfl

/-- Settles O47: the second draw toggles each cell back, and its collision is with what the first left there. -/
theorem drawingTwiceRestoresTheScreen : Obligations.DrawingTwiceRestoresTheScreen := by
  intro x y n s hx hy hrange
  have hcell := cell_effect_drw x y n s
  have hflag := reg_VF_effect_drw_eq_one_iff x y n (effect (.drw x y n) s)
  simp only [drawsOn_effect_drw n s hx hy] at hflag
  refine ⟨effect (.drw x y n) s, effect (.drw x y n) (effect (.drw x y n) s), exec_drw hrange, exec_drw hrange, ?_, hflag,
    fun hblank => hflag.trans ?_⟩
  · refine Framebuffer.ext_cell fun cx cy => Bool.eq_iff_iff.2 ?_
    rw [cell_effect_drw, drawsOn_effect_drw n s hx hy, hcell]
    tauto
  · refine exists_congr fun cx => exists_congr fun cy => and_iff_left_of_imp fun hdraws => (hcell cx cy).2 ?_
    rw [hblank cx cy hdraws]
    exact iff_of_false Bool.false_ne_true (not_not.2 hdraws)

end Sys2Proof.Machine
end
